-- ==== Sys2Proof/Word.lean ====
section
/-! DEFINITION. The bit-vector types of the machine, each the width the spec gives it (00_scope.md R7, R8). -/

namespace Sys2Proof

/-- A byte: the smallest addressable unit, a byte register, a memory byte (00_scope.md R8). -/
abbrev Byte := BitVec 8

/-- A word register, the program counter or a 16-bit logical address (00_scope.md R8). -/
abbrev Word := BitVec 16

/-- A 19-bit physical address (20_memory.md R60, R74). -/
abbrev PAddr := BitVec 19

/-- A 4-bit field: a byte-register index, a count field, an interrupt priority level (00_scope.md R7). -/
abbrev Nibble := BitVec 4

/-- The FLAGS register: bit 3 VALUE, bit 2 MINUS, bit 1 FAULT, bit 0 LINK (10_state.md R27). -/
abbrev FlagNibble := BitVec 4

end Sys2Proof
end

