-- ==== Sys2Proof/Machine/Bits.lean ====
section
/-! DEFINITION. The bit-field, byte-order and sign-extension helpers every other file uses (00_scope.md R7, R8). -/

namespace Sys2Proof.Machine

/-- The high nibble of a byte, `b[7:4]` (00_scope.md R7). -/
def hiNibble (b : Byte) : Nibble := b.extractLsb' 4 4

/-- The low nibble of a byte, `b[3:0]` (00_scope.md R7). -/
def loNibble (b : Byte) : Nibble := b.extractLsb' 0 4

/-- The high byte of a word, `w[15:8]` (10_state.md R23). -/
def hiByte (w : Word) : Byte := w.extractLsb' 8 8

/-- The low byte of a word, `w[7:0]` (10_state.md R23). -/
def loByte (w : Word) : Byte := w.extractLsb' 0 8

/-- `h ∥ l`: big-endian assembly of a word from its two bytes (20_memory.md R67, R71). -/
def wordOf (h l : Byte) : Word := h ++ l

/-- `sext_16(v)` of 00_scope.md R8: an 8-bit displacement as a 16-bit value. -/
def sext16 (v : Byte) : Word := v.signExtend 16

/-- A byte with its high nibble replaced and its low nibble kept: the read-modify-write of register C (10_state.md R38). -/
def setHiNibble (b : Byte) (n : Nibble) : Byte := n ++ loNibble b

/-- `f` applied `n` times: the `repeat c times` of 42_unary_alu.md R194 to R197. -/
def repeatN {α : Type} (f : α → α) : Nat → α → α
  | 0, a => a
  | n + 1, a => repeatN f n (f a)

end Sys2Proof.Machine
end

