-- ==== Sys2Proof/Syntax.lean ====
section
/-! DEFINITION. The abstract syntax: registers, addressing modes and one constructor of Instr for every row kind of the
opcode table (30_encoding.md R105, R118). A row with a Fatal outcome is a constructor too, under its own mnemonic, with
the bits that its encoding leaves free as its fields. -/

namespace Sys2Proof

/-- The word registers of a bank, in the order of their byte indices 0, 2, .., 14 (10_state.md R21). -/
inductive WReg where
  | A | B | X | Y | Z | S | C | P
  deriving DecidableEq, Repr

/-- What an indexed mode does to its index register, field `mm` (30_encoding.md R103). -/
inductive IdxStep where
  | plain
  | postInc
  | preDec
  deriving DecidableEq, Repr

/-- An addressing mode with its assembled tail (30_encoding.md R102, R104). The literal mode holds no operand: R104 has
it `not assembled by the decoder`, the instruction reads it at PC (45_load_store.md R311; assumption 6). -/
inductive Mode where
  /-- Mode 0 (45_load_store.md R311). -/
  | literal
  /-- Mode 1 (R312). -/
  | direct (addr : Word)
  /-- Mode 2 (R313). -/
  | indirect (addr : Word)
  /-- Mode 3 (R314). -/
  | relative (disp : Byte)
  /-- Mode 4 (R315). -/
  | relIndirect (disp : Byte)
  /-- Mode 5 (R316): index register, step, indirect bit, displacement byte if present. -/
  | indexed (r : WReg) (st : IdxStep) (ind : Bool) (disp : Option Byte)
  /-- Modes 8 to 15 (R318). -/
  | register (r : WReg)
  deriving DecidableEq, Repr

/-- The instructions. Byte registers are 4-bit indices of the current bank (10_state.md R21, R22). A constructor whose
docstring says Fatal is an encoding with no instruction (30_encoding.md R118). -/
inductive Instr where
  /-- HLT: halt (40_control.md R140). -/
  | hlt
  /-- NOP: no operation (40_control.md R141). -/
  | nop
  /-- SF: set FAULT (40_control.md R142). -/
  | sf
  /-- RF: reset FAULT (40_control.md R143). -/
  | rf
  /-- EI: enable interrupts (40_control.md R144). -/
  | ei
  /-- DI: disable interrupts (40_control.md R145). -/
  | di
  /-- SL: set LINK (40_control.md R146). -/
  | sl
  /-- RL: reset LINK (40_control.md R147). -/
  | rl
  /-- CL: complement LINK (40_control.md R148). -/
  | cl
  /-- RSR: return from subroutine (40_control.md R149). -/
  | rsr
  /-- RI: return from interrupt (40_control.md R150). -/
  | ri
  /-- RIM: return from interrupt, second form (40_control.md R151). -/
  | rim
  /-- CF: complement FAULT (40_control.md R152). -/
  | cf
  /-- PCX: transfer PC to X (40_control.md R153). -/
  | pcx
  /-- DLY: delay, which is a NOP (40_control.md R154). -/
  | dly
  /-- RSYS: return from system call (40_control.md R155). -/
  | rsys
  /-- BL: branch if LINK set (41_branch.md R172). -/
  | bl (disp : Byte)
  /-- BNL: branch if LINK clear (41_branch.md R173). -/
  | bnl (disp : Byte)
  /-- BF: branch if FAULT set (41_branch.md R174). -/
  | bf (disp : Byte)
  /-- BNF: branch if FAULT clear (41_branch.md R175). -/
  | bnf (disp : Byte)
  /-- BZ: branch if zero (41_branch.md R176). -/
  | bz (disp : Byte)
  /-- BNZ: branch if not zero (41_branch.md R177). -/
  | bnz (disp : Byte)
  /-- BM: branch if minus (41_branch.md R178). -/
  | bm (disp : Byte)
  /-- BP: branch if plus (41_branch.md R179). -/
  | bp (disp : Byte)
  /-- BS1: branch if switch 1 set (41_branch.md R180). -/
  | bs1 (disp : Byte)
  /-- BNS1: branch if switch 1 clear (41_branch.md R181). -/
  | bns1 (disp : Byte)
  /-- BS2: branch if switch 2 set (41_branch.md R182). -/
  | bs2 (disp : Byte)
  /-- BNS2: branch if switch 2 clear (41_branch.md R183). -/
  | bns2 (disp : Byte)
  /-- BS3: branch if switch 3 set (41_branch.md R184). -/
  | bs3 (disp : Byte)
  /-- BNS3: branch if switch 3 clear (41_branch.md R185). -/
  | bns3 (disp : Byte)
  /-- BS4: branch if switch 4 set (41_branch.md R186). -/
  | bs4 (disp : Byte)
  /-- BNS4: branch if switch 4 clear (41_branch.md R187). -/
  | bns4 (disp : Byte)
  /-- INRB: increment byte register `r`, count `n + 1` (42_unary_alu.md R200). -/
  | inrb (r : Nibble) (n : Nibble)
  /-- DCRB: decrement byte register `r`, count `n + 1` (42_unary_alu.md R201). -/
  | dcrb (r : Nibble) (n : Nibble)
  /-- CLRB: clear byte register `r`, count `n + 1` (42_unary_alu.md R202). -/
  | clrb (r : Nibble) (n : Nibble)
  /-- IVRB: invert byte register `r`, count `n + 1` (42_unary_alu.md R203). -/
  | ivrb (r : Nibble) (n : Nibble)
  /-- SRRB: shift right byte register `r`, count `n + 1` (42_unary_alu.md R204). -/
  | srrb (r : Nibble) (n : Nibble)
  /-- SLRB: shift left byte register `r`, count `n + 1` (42_unary_alu.md R205). -/
  | slrb (r : Nibble) (n : Nibble)
  /-- RRRB: rotate right through LINK byte register `r`, count `n + 1` (42_unary_alu.md R206). -/
  | rrrb (r : Nibble) (n : Nibble)
  /-- RLRB: rotate left through LINK byte register `r`, count `n + 1` (42_unary_alu.md R207). -/
  | rlrb (r : Nibble) (n : Nibble)
  /-- INAB: increment AL (42_unary_alu.md R208). -/
  | inab
  /-- DCAB: decrement AL (42_unary_alu.md R209). -/
  | dcab
  /-- CLAB: clear AL (42_unary_alu.md R210). -/
  | clab
  /-- IVAB: invert AL (42_unary_alu.md R211). -/
  | ivab
  /-- SRAB: shift right AL (42_unary_alu.md R212). -/
  | srab
  /-- SLAB: shift left AL (42_unary_alu.md R213). -/
  | slab
  /-- INR: increment word register `r`, count `n + 1` (42_unary_alu.md R216). -/
  | inr (r : WReg) (n : Nibble)
  /-- INR__odd_register Fatal: INR with the odd selector `2r + 1` (30_encoding.md R119). -/
  | inrOdd (r : BitVec 3) (n : Nibble)
  /-- DCR: decrement word register `r`, count `n + 1` (42_unary_alu.md R217). -/
  | dcr (r : WReg) (n : Nibble)
  /-- DCR__odd_register Fatal: DCR with the odd selector `2r + 1` (30_encoding.md R119). -/
  | dcrOdd (r : BitVec 3) (n : Nibble)
  /-- CLR: clear word register `r`, count `n + 1` (42_unary_alu.md R218). -/
  | clr (r : WReg) (n : Nibble)
  /-- CLR__odd_register Fatal: CLR with the odd selector `2r + 1` (30_encoding.md R119). -/
  | clrOdd (r : BitVec 3) (n : Nibble)
  /-- IVR: invert word register `r`, count `n + 1` (42_unary_alu.md R219). -/
  | ivr (r : WReg) (n : Nibble)
  /-- IVR__odd_register Fatal: IVR with the odd selector `2r + 1` (30_encoding.md R119). -/
  | ivrOdd (r : BitVec 3) (n : Nibble)
  /-- SRR: shift right word register `r`, count `n + 1` (42_unary_alu.md R220). -/
  | srr (r : WReg) (n : Nibble)
  /-- SRR__odd_register Fatal: SRR with the odd selector `2r + 1` (30_encoding.md R119). -/
  | srrOdd (r : BitVec 3) (n : Nibble)
  /-- SLR: shift left word register `r`, count `n + 1` (42_unary_alu.md R221). -/
  | slr (r : WReg) (n : Nibble)
  /-- SLR__odd_register Fatal: SLR with the odd selector `2r + 1` (30_encoding.md R119). -/
  | slrOdd (r : BitVec 3) (n : Nibble)
  /-- RRR: rotate right through LINK word register `r`, count `n + 1` (42_unary_alu.md R222). -/
  | rrr (r : WReg) (n : Nibble)
  /-- RRR__odd_register Fatal: RRR with the odd selector `2r + 1` (30_encoding.md R119). -/
  | rrrOdd (r : BitVec 3) (n : Nibble)
  /-- RLR: rotate left through LINK word register `r`, count `n + 1` (42_unary_alu.md R223). -/
  | rlr (r : WReg) (n : Nibble)
  /-- RLR__odd_register Fatal: RLR with the odd selector `2r + 1` (30_encoding.md R119). -/
  | rlrOdd (r : BitVec 3) (n : Nibble)
  /-- INA: increment A (42_unary_alu.md R224). -/
  | ina
  /-- DCA: decrement A (42_unary_alu.md R225). -/
  | dca
  /-- CLA: clear A (42_unary_alu.md R226). -/
  | cla
  /-- IVA: invert A (42_unary_alu.md R227). -/
  | iva
  /-- SRA: shift right A (42_unary_alu.md R228). -/
  | sra
  /-- SLA: shift left A (42_unary_alu.md R229). -/
  | sla
  /-- LDMMU: load a page-table bank from memory (43_mmu_dma_block.md R241). -/
  | ldmmu (bank : BitVec 3) (addr : Word)
  /-- LDMMU__bank_8..15 Fatal: LDMMU with bank `8 + b` (43_mmu_dma_block.md R240). -/
  | ldmmuBadBank (b : BitVec 3)
  /-- STMMU: store a page-table bank to memory (43_mmu_dma_block.md R242). -/
  | stmmu (bank : BitVec 3) (addr : Word)
  /-- STMMU__bank_8..15 Fatal: STMMU with bank `8 + b` (43_mmu_dma_block.md R240). -/
  | stmmuBadBank (b : BitVec 3)
  /-- reserved__0x2E_sub-opcode_2..15 Fatal: opcode 0x2E with sub-opcode `code` of 2..15 (43_mmu_dma_block.md R253). -/
  | reserved2E (code : Nibble) (low : Nibble)
  /-- LDDMA: load DMA.addr from a word register (43_mmu_dma_block.md R244). -/
  | lddma (r : WReg)
  /-- LDDMA__odd_register Fatal: LDDMA with the odd selector `2r + 1` (30_encoding.md R119). -/
  | lddmaOdd (r : BitVec 3)
  /-- STDMA: store DMA.addr to a word register (43_mmu_dma_block.md R245). -/
  | stdma (r : WReg)
  /-- STDMA__odd_register Fatal: STDMA with the odd selector `2r + 1` (30_encoding.md R119). -/
  | stdmaOdd (r : BitVec 3)
  /-- LDDMC: load DMA.count from a word register (43_mmu_dma_block.md R246). -/
  | lddmc (r : WReg)
  /-- LDDMC__odd_register Fatal: LDDMC with the odd selector `2r + 1` (30_encoding.md R119). -/
  | lddmcOdd (r : BitVec 3)
  /-- STDMC: store DMA.count to a word register (43_mmu_dma_block.md R247). -/
  | stdmc (r : WReg)
  /-- STDMC__odd_register Fatal: STDMC with the odd selector `2r + 1` (30_encoding.md R119). -/
  | stdmcOdd (r : BitVec 3)
  /-- SDMAM: set DMA.mode (43_mmu_dma_block.md R248). -/
  | sdmam (m : Nibble)
  /-- EDMA: enable DMA (43_mmu_dma_block.md R249). -/
  | edma
  /-- EDMA__non-zero_pad Fatal: EDMA with a non-zero pad (43_mmu_dma_block.md R253). -/
  | edmaPad (pad : Nibble)
  /-- DDMA: disable DMA (43_mmu_dma_block.md R250). -/
  | ddma
  /-- DDMA__non-zero_pad Fatal: DDMA with a non-zero pad (43_mmu_dma_block.md R253). -/
  | ddmaPad (pad : Nibble)
  /-- reserved__0x2F_sub-opcode_5 Fatal: opcode 0x2F with sub-opcode 5 (43_mmu_dma_block.md R253). -/
  | reserved2FSub5 (r : Nibble)
  /-- reserved__0x2F_sub-opcode_8..15 Fatal: opcode 0x2F with sub-opcode `8 + code` (43_mmu_dma_block.md R253). -/
  | reserved2FSub8 (r : Nibble) (code : BitVec 3)
  /-- BCPY: block copy of `n + 1` bytes (43_mmu_dma_block.md R251). -/
  | bcpy (n : Byte) (src : Word) (dst : Word)
  /-- BCMP: block compare of `n + 1` byte pairs (43_mmu_dma_block.md R252). -/
  | bcmp (n : Byte) (src : Word) (dst : Word)
  /-- ADDB: add, byte registers (44_binary_alu.md R280). -/
  | addb (src : Nibble) (dst : Nibble)
  /-- SUBB: subtract, byte registers (44_binary_alu.md R281). -/
  | subb (src : Nibble) (dst : Nibble)
  /-- ANDB: and, byte registers (44_binary_alu.md R282). -/
  | andb (src : Nibble) (dst : Nibble)
  /-- ORIB: inclusive or, byte registers (44_binary_alu.md R283). -/
  | orib (src : Nibble) (dst : Nibble)
  /-- OREB: exclusive or, byte registers (44_binary_alu.md R284). -/
  | oreb (src : Nibble) (dst : Nibble)
  /-- XFRB: transfer, byte registers (44_binary_alu.md R285). -/
  | xfrb (src : Nibble) (dst : Nibble)
  /-- (reserved) Fatal: opcode 0x46, which has no instruction (30_encoding.md R118). -/
  | reserved46
  /-- (reserved) Fatal: opcode 0x47, which has no instruction (30_encoding.md R118). -/
  | reserved47
  /-- (reserved) Fatal: opcode 0x56, which has no instruction (30_encoding.md R118). -/
  | reserved56
  /-- (reserved) Fatal: opcode 0x57, which has no instruction (30_encoding.md R118). -/
  | reserved57
  /-- AABB: add AL to BL (44_binary_alu.md R286). -/
  | aabb
  /-- SABB: subtract BL from AL into BL (44_binary_alu.md R287). -/
  | sabb
  /-- NABB: and AL into BL (44_binary_alu.md R288). -/
  | nabb
  /-- XAXB: transfer AL to XL (44_binary_alu.md R289). -/
  | xaxb
  /-- XAYB: transfer AL to YL (44_binary_alu.md R290). -/
  | xayb
  /-- XABB: transfer AL to BL (44_binary_alu.md R291). -/
  | xabb
  /-- XAZB: transfer AL to ZL (44_binary_alu.md R292). -/
  | xazb
  /-- XASB: transfer AL to SL (44_binary_alu.md R293). -/
  | xasb
  /-- ADD: add, word registers (44_binary_alu.md R294). -/
  | add (src : WReg) (dst : WReg)
  /-- ADD__odd_source_register Fatal: ADD with the odd source selector `2 src + 1` (30_encoding.md R119). -/
  | addOddSrc (src : BitVec 3) (dst : Nibble)
  /-- ADD__odd_destination_register Fatal: ADD with the odd destination selector `2 dst + 1` (30_encoding.md R119). -/
  | addOddDst (src : WReg) (dst : BitVec 3)
  /-- SUB: subtract, strict, word registers (44_binary_alu.md R295). -/
  | sub (src : WReg) (dst : WReg)
  /-- SUB__odd_source_register Fatal: SUB with the odd source selector `2 src + 1` (30_encoding.md R119). -/
  | subOddSrc (src : BitVec 3) (dst : Nibble)
  /-- SUB__odd_destination_register Fatal: SUB with the odd destination selector `2 dst + 1` (30_encoding.md R119). -/
  | subOddDst (src : WReg) (dst : BitVec 3)
  /-- AND: and, word registers (44_binary_alu.md R296). -/
  | and (src : WReg) (dst : WReg)
  /-- AND__odd_source_register Fatal: AND with the odd source selector `2 src + 1` (30_encoding.md R119). -/
  | andOddSrc (src : BitVec 3) (dst : Nibble)
  /-- AND__odd_destination_register Fatal: AND with the odd destination selector `2 dst + 1` (30_encoding.md R119). -/
  | andOddDst (src : WReg) (dst : BitVec 3)
  /-- ORI: inclusive or, word registers (44_binary_alu.md R297). -/
  | ori (src : WReg) (dst : WReg)
  /-- ORI__odd_source_register Fatal: ORI with the odd source selector `2 src + 1` (30_encoding.md R119). -/
  | oriOddSrc (src : BitVec 3) (dst : Nibble)
  /-- ORI__odd_destination_register Fatal: ORI with the odd destination selector `2 dst + 1` (30_encoding.md R119). -/
  | oriOddDst (src : WReg) (dst : BitVec 3)
  /-- ORE: exclusive or, word registers (44_binary_alu.md R298). -/
  | ore (src : WReg) (dst : WReg)
  /-- ORE__odd_source_register Fatal: ORE with the odd source selector `2 src + 1` (30_encoding.md R119). -/
  | oreOddSrc (src : BitVec 3) (dst : Nibble)
  /-- ORE__odd_destination_register Fatal: ORE with the odd destination selector `2 dst + 1` (30_encoding.md R119). -/
  | oreOddDst (src : WReg) (dst : BitVec 3)
  /-- XFR: transfer, word registers (44_binary_alu.md R299). -/
  | xfr (src : WReg) (dst : WReg)
  /-- XFR__odd_source_register Fatal: XFR with the odd source selector `2 src + 1` (30_encoding.md R119). -/
  | xfrOddSrc (src : BitVec 3) (dst : Nibble)
  /-- XFR__odd_destination_register Fatal: XFR with the odd destination selector `2 dst + 1` (30_encoding.md R119). -/
  | xfrOddDst (src : WReg) (dst : BitVec 3)
  /-- AAB: add A to B (44_binary_alu.md R300). -/
  | aab
  /-- SAB: subtract B from A into B (44_binary_alu.md R301). -/
  | sab
  /-- NAB: and A into B (44_binary_alu.md R302). -/
  | nab
  /-- XAX: transfer A to X (44_binary_alu.md R303). -/
  | xax
  /-- XAY: transfer A to Y (44_binary_alu.md R304). -/
  | xay
  /-- XAB: transfer A to B (44_binary_alu.md R305). -/
  | xab
  /-- XAZ: transfer A to Z (44_binary_alu.md R306). -/
  | xaz
  /-- XAS: transfer A to S (44_binary_alu.md R307). -/
  | xas
  /-- LDX: load X, addressed (45_load_store.md R326). -/
  | ldx (m : Mode)
  /-- LDX__indexed__mm___3 Fatal: LDX in mode 5 with mode byte `hi` in bits 7:2 and mm = 3 (45_load_store.md R316). -/
  | ldxMm3 (hi : BitVec 6)
  /-- LDX__indexed__odd_index_register Fatal: LDX in mode 5 with the odd index selector `2r + 1` (30_encoding.md R119). -/
  | ldxOddIndex (r : BitVec 3) (d : Bool) (ind : Bool) (st : IdxStep)
  /-- invalid__LDX_mode_6 Fatal: LDX with mode 6 (45_load_store.md R317). -/
  | ldxMode6
  /-- invalid__LDX_mode_7 Fatal: LDX with mode 7 (45_load_store.md R317). -/
  | ldxMode7
  /-- STX: store X, addressed (45_load_store.md R327). -/
  | stx (m : Mode)
  /-- STX__indexed__mm___3 Fatal: STX in mode 5 with mode byte `hi` in bits 7:2 and mm = 3 (45_load_store.md R316). -/
  | stxMm3 (hi : BitVec 6)
  /-- STX__indexed__odd_index_register Fatal: STX in mode 5 with the odd index selector `2r + 1` (30_encoding.md R119). -/
  | stxOddIndex (r : BitVec 3) (d : Bool) (ind : Bool) (st : IdxStep)
  /-- invalid__STX_mode_6 Fatal: STX with mode 6 (45_load_store.md R317). -/
  | stxMode6
  /-- invalid__STX_mode_7 Fatal: STX with mode 7 (45_load_store.md R317). -/
  | stxMode7
  /-- LDAB: load AL, addressed (45_load_store.md R328). -/
  | ldab (m : Mode)
  /-- LDAB__indexed__mm___3 Fatal: LDAB in mode 5 with mode byte `hi` in bits 7:2 and mm = 3 (45_load_store.md R316). -/
  | ldabMm3 (hi : BitVec 6)
  /-- LDAB__indexed__odd_index_register Fatal: LDAB in mode 5 with the odd index selector `2r + 1` (30_encoding.md R119). -/
  | ldabOddIndex (r : BitVec 3) (d : Bool) (ind : Bool) (st : IdxStep)
  /-- invalid__LDAB_mode_6 Fatal: LDAB with mode 6 (45_load_store.md R317). -/
  | ldabMode6
  /-- invalid__LDAB_mode_7 Fatal: LDAB with mode 7 (45_load_store.md R317). -/
  | ldabMode7
  /-- LDA: load A, addressed (45_load_store.md R329). -/
  | lda (m : Mode)
  /-- LDA__indexed__mm___3 Fatal: LDA in mode 5 with mode byte `hi` in bits 7:2 and mm = 3 (45_load_store.md R316). -/
  | ldaMm3 (hi : BitVec 6)
  /-- LDA__indexed__odd_index_register Fatal: LDA in mode 5 with the odd index selector `2r + 1` (30_encoding.md R119). -/
  | ldaOddIndex (r : BitVec 3) (d : Bool) (ind : Bool) (st : IdxStep)
  /-- invalid__LDA_mode_6 Fatal: LDA with mode 6 (45_load_store.md R317). -/
  | ldaMode6
  /-- invalid__LDA_mode_7 Fatal: LDA with mode 7 (45_load_store.md R317). -/
  | ldaMode7
  /-- STAB: store AL, addressed (45_load_store.md R330). -/
  | stab (m : Mode)
  /-- STAB__indexed__mm___3 Fatal: STAB in mode 5 with mode byte `hi` in bits 7:2 and mm = 3 (45_load_store.md R316). -/
  | stabMm3 (hi : BitVec 6)
  /-- STAB__indexed__odd_index_register Fatal: STAB in mode 5 with the odd index selector `2r + 1` (30_encoding.md R119). -/
  | stabOddIndex (r : BitVec 3) (d : Bool) (ind : Bool) (st : IdxStep)
  /-- invalid__STAB_mode_6 Fatal: STAB with mode 6 (45_load_store.md R317). -/
  | stabMode6
  /-- invalid__STAB_mode_7 Fatal: STAB with mode 7 (45_load_store.md R317). -/
  | stabMode7
  /-- STA: store A, addressed (45_load_store.md R331). -/
  | sta (m : Mode)
  /-- STA__indexed__mm___3 Fatal: STA in mode 5 with mode byte `hi` in bits 7:2 and mm = 3 (45_load_store.md R316). -/
  | staMm3 (hi : BitVec 6)
  /-- STA__indexed__odd_index_register Fatal: STA in mode 5 with the odd index selector `2r + 1` (30_encoding.md R119). -/
  | staOddIndex (r : BitVec 3) (d : Bool) (ind : Bool) (st : IdxStep)
  /-- invalid__STA_mode_6 Fatal: STA with mode 6 (45_load_store.md R317). -/
  | staMode6
  /-- invalid__STA_mode_7 Fatal: STA with mode 7 (45_load_store.md R317). -/
  | staMode7
  /-- LDBB: load BL, addressed (45_load_store.md R332). -/
  | ldbb (m : Mode)
  /-- LDBB__indexed__mm___3 Fatal: LDBB in mode 5 with mode byte `hi` in bits 7:2 and mm = 3 (45_load_store.md R316). -/
  | ldbbMm3 (hi : BitVec 6)
  /-- LDBB__indexed__odd_index_register Fatal: LDBB in mode 5 with the odd index selector `2r + 1` (30_encoding.md R119). -/
  | ldbbOddIndex (r : BitVec 3) (d : Bool) (ind : Bool) (st : IdxStep)
  /-- invalid__LDBB_mode_6 Fatal: LDBB with mode 6 (45_load_store.md R317). -/
  | ldbbMode6
  /-- invalid__LDBB_mode_7 Fatal: LDBB with mode 7 (45_load_store.md R317). -/
  | ldbbMode7
  /-- LDB: load B, addressed (45_load_store.md R333). -/
  | ldb (m : Mode)
  /-- LDB__indexed__mm___3 Fatal: LDB in mode 5 with mode byte `hi` in bits 7:2 and mm = 3 (45_load_store.md R316). -/
  | ldbMm3 (hi : BitVec 6)
  /-- LDB__indexed__odd_index_register Fatal: LDB in mode 5 with the odd index selector `2r + 1` (30_encoding.md R119). -/
  | ldbOddIndex (r : BitVec 3) (d : Bool) (ind : Bool) (st : IdxStep)
  /-- invalid__LDB_mode_6 Fatal: LDB with mode 6 (45_load_store.md R317). -/
  | ldbMode6
  /-- invalid__LDB_mode_7 Fatal: LDB with mode 7 (45_load_store.md R317). -/
  | ldbMode7
  /-- STBB: store BL, addressed (45_load_store.md R334). -/
  | stbb (m : Mode)
  /-- STBB__indexed__mm___3 Fatal: STBB in mode 5 with mode byte `hi` in bits 7:2 and mm = 3 (45_load_store.md R316). -/
  | stbbMm3 (hi : BitVec 6)
  /-- STBB__indexed__odd_index_register Fatal: STBB in mode 5 with the odd index selector `2r + 1` (30_encoding.md R119). -/
  | stbbOddIndex (r : BitVec 3) (d : Bool) (ind : Bool) (st : IdxStep)
  /-- invalid__STBB_mode_6 Fatal: STBB with mode 6 (45_load_store.md R317). -/
  | stbbMode6
  /-- invalid__STBB_mode_7 Fatal: STBB with mode 7 (45_load_store.md R317). -/
  | stbbMode7
  /-- STB: store B, addressed (45_load_store.md R335). -/
  | stb (m : Mode)
  /-- STB__indexed__mm___3 Fatal: STB in mode 5 with mode byte `hi` in bits 7:2 and mm = 3 (45_load_store.md R316). -/
  | stbMm3 (hi : BitVec 6)
  /-- STB__indexed__odd_index_register Fatal: STB in mode 5 with the odd index selector `2r + 1` (30_encoding.md R119). -/
  | stbOddIndex (r : BitVec 3) (d : Bool) (ind : Bool) (st : IdxStep)
  /-- invalid__STB_mode_6 Fatal: STB with mode 6 (45_load_store.md R317). -/
  | stbMode6
  /-- invalid__STB_mode_7 Fatal: STB with mode 7 (45_load_store.md R317). -/
  | stbMode7
  /-- JMP: unconditional jump (46_jump_call_stack.md R360). -/
  | jmp (m : Mode)
  /-- JMP__indexed__mm___3 Fatal: JMP in mode 5 with mode byte `hi` in bits 7:2 and mm = 3 (45_load_store.md R316). -/
  | jmpMm3 (hi : BitVec 6)
  /-- JMP__indexed__odd_index_register Fatal: JMP in mode 5 with the odd index selector `2r + 1` (30_encoding.md R119). -/
  | jmpOddIndex (r : BitVec 3) (d : Bool) (ind : Bool) (st : IdxStep)
  /-- invalid__JMP_submode_0__literal Fatal: opcode 0x70 (46_jump_call_stack.md R365). -/
  | jmpLiteral
  /-- JSYS: system call trap (46_jump_call_stack.md R362). -/
  | jsys (arg : Byte)
  /-- invalid__submode_7 Fatal: opcode 0x77 (46_jump_call_stack.md R365). -/
  | jumpSub7
  /-- JSR: jump to subroutine (46_jump_call_stack.md R361). -/
  | jsr (m : Mode)
  /-- JSR__indexed__mm___3 Fatal: JSR in mode 5 with mode byte `hi` in bits 7:2 and mm = 3 (45_load_store.md R316). -/
  | jsrMm3 (hi : BitVec 6)
  /-- JSR__indexed__odd_index_register Fatal: JSR in mode 5 with the odd index selector `2r + 1` (30_encoding.md R119). -/
  | jsrOddIndex (r : BitVec 3) (d : Bool) (ind : Bool) (st : IdxStep)
  /-- invalid__JSR_submode_0__literal Fatal: opcode 0x78 (46_jump_call_stack.md R365). -/
  | jsrLiteral
  /-- PUSH: push `n + 1` byte registers from `r` (46_jump_call_stack.md R363). -/
  | push (r : Nibble) (n : Nibble)
  /-- POP: pop `n + 1` byte registers from `r` (46_jump_call_stack.md R364). -/
  | pop (r : Nibble) (n : Nibble)
  deriving DecidableEq, Repr

end Sys2Proof
end

