-- ==== Sys2Proof/WellFormed.lean ====
section
/-! DEFINITION. Which terms of the syntax an encoding exists for (30_encoding.md R102, R106, R107, R365 of
46_jump_call_stack.md). Widths and even registers are in the types; what is left is the modes a group lacks and the
values a Fatal row excludes. -/

namespace Sys2Proof

/-- Whether the mode is register-direct: groups 6 and 7 have none (30_encoding.md R102). -/
def Mode.isRegister : Mode → Bool
  | .register _ => true
  | .literal | .direct _ | .indirect _ | .relative _ | .relIndirect _ | .indexed _ _ _ _ => false

/-- Whether the mode gives a jump target: modes 1 to 5 (46_jump_call_stack.md R360, R365). -/
def Mode.isTarget : Mode → Bool
  | .literal | .register _ => false
  | .direct _ | .indirect _ | .relative _ | .relIndirect _ | .indexed _ _ _ _ => true

/-- The terms some encoding stands for. -/
def Instr.wf : Instr → Bool
  | .hlt => true
  | .nop => true
  | .sf => true
  | .rf => true
  | .ei => true
  | .di => true
  | .sl => true
  | .rl => true
  | .cl => true
  | .rsr => true
  | .ri => true
  | .rim => true
  | .cf => true
  | .pcx => true
  | .dly => true
  | .rsys => true
  | .bl _ => true
  | .bnl _ => true
  | .bf _ => true
  | .bnf _ => true
  | .bz _ => true
  | .bnz _ => true
  | .bm _ => true
  | .bp _ => true
  | .bs1 _ => true
  | .bns1 _ => true
  | .bs2 _ => true
  | .bns2 _ => true
  | .bs3 _ => true
  | .bns3 _ => true
  | .bs4 _ => true
  | .bns4 _ => true
  | .inrb _ _ => true
  | .dcrb _ _ => true
  | .clrb _ _ => true
  | .ivrb _ _ => true
  | .srrb _ _ => true
  | .slrb _ _ => true
  | .rrrb _ _ => true
  | .rlrb _ _ => true
  | .inab => true
  | .dcab => true
  | .clab => true
  | .ivab => true
  | .srab => true
  | .slab => true
  | .inr _ _ => true
  | .inrOdd _ _ => true
  | .dcr _ _ => true
  | .dcrOdd _ _ => true
  | .clr _ _ => true
  | .clrOdd _ _ => true
  | .ivr _ _ => true
  | .ivrOdd _ _ => true
  | .srr _ _ => true
  | .srrOdd _ _ => true
  | .slr _ _ => true
  | .slrOdd _ _ => true
  | .rrr _ _ => true
  | .rrrOdd _ _ => true
  | .rlr _ _ => true
  | .rlrOdd _ _ => true
  | .ina => true
  | .dca => true
  | .cla => true
  | .iva => true
  | .sra => true
  | .sla => true
  | .ldmmu _ _ => true
  | .ldmmuBadBank _ => true
  | .stmmu _ _ => true
  | .stmmuBadBank _ => true
  | .reserved2E code _ => decide (2 ≤ code.toNat)
  | .lddma _ => true
  | .lddmaOdd _ => true
  | .stdma _ => true
  | .stdmaOdd _ => true
  | .lddmc _ => true
  | .lddmcOdd _ => true
  | .stdmc _ => true
  | .stdmcOdd _ => true
  | .sdmam _ => true
  | .edma => true
  | .edmaPad pad => pad != 0
  | .ddma => true
  | .ddmaPad pad => pad != 0
  | .reserved2FSub5 _ => true
  | .reserved2FSub8 _ _ => true
  | .bcpy _ _ _ => true
  | .bcmp _ _ _ => true
  | .addb _ _ => true
  | .subb _ _ => true
  | .andb _ _ => true
  | .orib _ _ => true
  | .oreb _ _ => true
  | .xfrb _ _ => true
  | .reserved46 => true
  | .reserved47 => true
  | .reserved56 => true
  | .reserved57 => true
  | .aabb => true
  | .sabb => true
  | .nabb => true
  | .xaxb => true
  | .xayb => true
  | .xabb => true
  | .xazb => true
  | .xasb => true
  | .add _ _ => true
  | .addOddSrc _ _ => true
  | .addOddDst _ _ => true
  | .sub _ _ => true
  | .subOddSrc _ _ => true
  | .subOddDst _ _ => true
  | .and _ _ => true
  | .andOddSrc _ _ => true
  | .andOddDst _ _ => true
  | .ori _ _ => true
  | .oriOddSrc _ _ => true
  | .oriOddDst _ _ => true
  | .ore _ _ => true
  | .oreOddSrc _ _ => true
  | .oreOddDst _ _ => true
  | .xfr _ _ => true
  | .xfrOddSrc _ _ => true
  | .xfrOddDst _ _ => true
  | .aab => true
  | .sab => true
  | .nab => true
  | .xax => true
  | .xay => true
  | .xab => true
  | .xaz => true
  | .xas => true
  | .ldx m => !m.isRegister
  | .ldxMm3 _ => true
  | .ldxOddIndex _ _ _ _ => true
  | .ldxMode6 => true
  | .ldxMode7 => true
  | .stx m => !m.isRegister
  | .stxMm3 _ => true
  | .stxOddIndex _ _ _ _ => true
  | .stxMode6 => true
  | .stxMode7 => true
  | .ldab _ => true
  | .ldabMm3 _ => true
  | .ldabOddIndex _ _ _ _ => true
  | .ldabMode6 => true
  | .ldabMode7 => true
  | .lda _ => true
  | .ldaMm3 _ => true
  | .ldaOddIndex _ _ _ _ => true
  | .ldaMode6 => true
  | .ldaMode7 => true
  | .stab _ => true
  | .stabMm3 _ => true
  | .stabOddIndex _ _ _ _ => true
  | .stabMode6 => true
  | .stabMode7 => true
  | .sta _ => true
  | .staMm3 _ => true
  | .staOddIndex _ _ _ _ => true
  | .staMode6 => true
  | .staMode7 => true
  | .ldbb _ => true
  | .ldbbMm3 _ => true
  | .ldbbOddIndex _ _ _ _ => true
  | .ldbbMode6 => true
  | .ldbbMode7 => true
  | .ldb _ => true
  | .ldbMm3 _ => true
  | .ldbOddIndex _ _ _ _ => true
  | .ldbMode6 => true
  | .ldbMode7 => true
  | .stbb _ => true
  | .stbbMm3 _ => true
  | .stbbOddIndex _ _ _ _ => true
  | .stbbMode6 => true
  | .stbbMode7 => true
  | .stb _ => true
  | .stbMm3 _ => true
  | .stbOddIndex _ _ _ _ => true
  | .stbMode6 => true
  | .stbMode7 => true
  | .jmp m => m.isTarget
  | .jmpMm3 _ => true
  | .jmpOddIndex _ _ _ _ => true
  | .jmpLiteral => true
  | .jsys _ => true
  | .jumpSub7 => true
  | .jsr m => m.isTarget
  | .jsrMm3 _ => true
  | .jsrOddIndex _ _ _ _ => true
  | .jsrLiteral => true
  | .push _ _ => true
  | .pop _ _ => true

end Sys2Proof
end

