-- ==== Sys2Proof/Decode.lean ====
section
/-! DEFINITION. The decoder, a tree that asks for one byte at a time in the order the rules fetch them (30_encoding.md
R100 to R107, R118 to R120; 45_load_store.md R316), and after it the encoder, from the same tables. -/

namespace Sys2Proof

open Sys2Proof.Machine

/-- What is left to decode: an instruction, or one more byte to fetch. -/
inductive Dec where
  | done (i : Instr)
  | byte (k : Byte → Dec)

/-- Why a list of bytes is no instruction: every opcode has a row (30_encoding.md), so only that bytes are missing. -/
inductive DecodeError where
  | truncated
  deriving DecidableEq, Repr

/-! ### Fields -/

/-- The word register whose byte index is `2k` (10_state.md R21). -/
def WReg.ofSel (k : BitVec 3) : WReg :=
  match k.toNat with
  | 0 => .A
  | 1 => .B
  | 2 => .X
  | 3 => .Y
  | 4 => .Z
  | 5 => .S
  | 6 => .C
  | _ => .P

/-- The number of a word register: bits 3:1 of its byte index, and of its register-direct mode (30_encoding.md R102). -/
def WReg.sel : WReg → BitVec 3
  | .A => 0
  | .B => 1
  | .X => 2
  | .Y => 3
  | .Z => 4
  | .S => 5
  | .C => 6
  | .P => 7

/-- The byte index of the high half of a word register: even (10_state.md R21, R23). -/
def WReg.hi (r : WReg) : Nibble := r.sel ++ 0#1

/-- The byte index of the low half of a word register (10_state.md R21, R23). -/
def WReg.lo (r : WReg) : Nibble := r.sel ++ 1#1

/-- Whether a register field is odd, which no word register is (30_encoding.md R119). -/
def isOdd (n : Nibble) : Bool := n.getLsbD 0

/-- Bits 3:1 of a register field. -/
def selOf (n : Nibble) : BitVec 3 := n.extractLsb' 1 3

/-- The word register of an even register field. -/
def wregOf (n : Nibble) : WReg := WReg.ofSel (selOf n)

/-- The odd register field `2k + 1`. -/
def oddSel (k : BitVec 3) : Nibble := k ++ 1#1

/-- Bits 2:0 of a nibble. -/
def lowThree (n : Nibble) : BitVec 3 := n.extractLsb' 0 3

/-- The bank field of a legal bank: bit 3 clear (30_encoding.md R104). -/
def lowBank (b : BitVec 3) : Nibble := 0#1 ++ b

/-- A nibble `8 + b`: bit 3 set. -/
def highBank (b : BitVec 3) : Nibble := 1#1 ++ b

/-- Field `mm` of the indexed mode byte when it is not 3 (30_encoding.md R103). -/
def IdxStep.bits : IdxStep → BitVec 2
  | .plain => 0
  | .postInc => 1
  | .preDec => 2

/-- The step a valid `mm` names (30_encoding.md R103). -/
def IdxStep.ofBits (mm : BitVec 2) : IdxStep :=
  match mm.toNat with
  | 0 => .plain
  | 1 => .postInc
  | _ => .preDec

/-- The indexed mode byte `ireg ∥ d ∥ i ∥ mm` (30_encoding.md R103). -/
def modeByte (ireg : Nibble) (d i : Bool) (st : IdxStep) : Byte :=
  ireg ++ (BitVec.ofBool d ++ BitVec.ofBool i ++ st.bits)

/-! ### The tree -/

/-- One byte operand. -/
def decByte (f : Byte → Instr) : Dec := .byte fun b => .done (f b)

/-- One byte of two nibbles. -/
def decNibbles (f : Nibble → Nibble → Instr) : Dec := .byte fun b => .done (f (hiNibble b) (loNibble b))

/-- Two bytes of a 16-bit operand, the first byte high (30_encoding.md R104), then the rest. -/
def decWord (k : Word → Dec) : Dec := .byte fun h => .byte fun l => k (wordOf h l)

/-- Format U on a word register: the odd selector is reserved (30_encoding.md R101, R119). -/
def decUnaryWord (f : WReg → Nibble → Instr) (odd : BitVec 3 → Nibble → Instr) : Dec :=
  .byte fun b =>
    if isOdd (hiNibble b) then .done (odd (selOf (hiNibble b)) (loNibble b))
    else .done (f (wregOf (hiNibble b)) (loNibble b))

/-- Format T on word registers: an odd source, then an odd destination, is reserved (30_encoding.md R101, R119). -/
def decBinaryWord (f : WReg → WReg → Instr) (oddSrc : BitVec 3 → Nibble → Instr) (oddDst : WReg → BitVec 3 → Instr) :
    Dec :=
  .byte fun b =>
    if isOdd (hiNibble b) then .done (oddSrc (selOf (hiNibble b)) (loNibble b))
    else if isOdd (loNibble b) then .done (oddDst (wregOf (hiNibble b)) (selOf (loNibble b)))
    else .done (f (wregOf (hiNibble b)) (wregOf (loNibble b)))

/-- Format P, opcode 0x2E: the sub-opcode is tested before the bank, the bank before the address is fetched
(30_encoding.md R106, 43_mmu_dma_block.md R240). -/
def decMmu : Dec :=
  .byte fun b =>
    match (hiNibble b).toNat with
    | 0 =>
      if (loNibble b).getLsbD 3 then .done (.ldmmuBadBank (lowThree (loNibble b)))
      else decWord fun a => .done (.ldmmu (lowThree (loNibble b)) a)
    | 1 =>
      if (loNibble b).getLsbD 3 then .done (.stmmuBadBank (lowThree (loNibble b)))
      else decWord fun a => .done (.stmmu (lowThree (loNibble b)) a)
    | _ => .done (.reserved2E (hiNibble b) (loNibble b))

/-- Format D on a word register: the odd selector is reserved (30_encoding.md R107, R119). -/
def dmaWord (r : Nibble) (f : WReg → Instr) (odd : BitVec 3 → Instr) : Instr :=
  if isOdd r then odd (selOf r) else f (wregOf r)

/-- Format D, opcode 0x2F (30_encoding.md R107, 43_mmu_dma_block.md R243). -/
def decDma : Dec :=
  .byte fun b =>
    .done <|
      let r := hiNibble b
      match (loNibble b).toNat with
      | 0 => dmaWord r .lddma .lddmaOdd
      | 1 => dmaWord r .stdma .stdmaOdd
      | 2 => dmaWord r .lddmc .lddmcOdd
      | 3 => dmaWord r .stdmc .stdmcOdd
      | 4 => .sdmam r
      | 5 => .reserved2FSub5 r
      | 6 => if r = 0 then .edma else .edmaPad r
      | 7 => if r = 0 then .ddma else .ddmaPad r
      | _ => .reserved2FSub8 r (lowThree (loNibble b))

/-- Format K: count byte, source, destination (30_encoding.md R101). -/
def decBlock (f : Byte → Word → Word → Instr) : Dec :=
  .byte fun n => decWord fun src => decWord fun dst => .done (f n src dst)

/-- Mode 5 after its opcode: sub-mode test, register test, displacement, in that order (45_load_store.md R316). -/
def decIndexed (f : Mode → Instr) (mm3 : BitVec 6 → Instr) (odd : BitVec 3 → Bool → Bool → IdxStep → Instr) : Dec :=
  .byte fun b =>
    let mm := b.extractLsb' 0 2
    let ireg := hiNibble b
    if mm = 3 then .done (mm3 (b.extractLsb' 2 6))
    else if isOdd ireg then .done (odd (selOf ireg) (b.getLsbD 3) (b.getLsbD 2) (IdxStep.ofBits mm))
    else if b.getLsbD 3 then
      .byte fun d => .done (f (.indexed (wregOf ireg) (IdxStep.ofBits mm) (b.getLsbD 2) (some d)))
    else .done (f (.indexed (wregOf ireg) (IdxStep.ofBits mm) (b.getLsbD 2) none))

/-- The mode tail of modes 1 to 5 (30_encoding.md R102); `m` is the mode number. -/
def decTail (f : Mode → Instr) (mm3 : BitVec 6 → Instr) (odd : BitVec 3 → Bool → Bool → IdxStep → Instr) (m : Nat) :
    Dec :=
  match m with
  | 1 => decWord fun a => .done (f (.direct a))
  | 2 => decWord fun a => .done (f (.indirect a))
  | 3 => decByte fun d => f (.relative d)
  | 4 => decByte fun d => f (.relIndirect d)
  | _ => decIndexed f mm3 odd

/-- The modes 0 to 7 of a load or store: 0 literal, 6 and 7 invalid (30_encoding.md R102, 45_load_store.md R317). -/
def decLow (f : Mode → Instr) (mm3 : BitVec 6 → Instr) (odd : BitVec 3 → Bool → Bool → IdxStep → Instr)
    (m6 m7 : Instr) (m : Nat) : Dec :=
  match m with
  | 0 => .done (f .literal)
  | 6 => .done m6
  | 7 => .done m7
  | _ => decTail f mm3 odd m

/-- A group of 8 to 15: all sixteen modes (30_encoding.md R102). -/
def decFull (f : Mode → Instr) (mm3 : BitVec 6 → Instr) (odd : BitVec 3 → Bool → Bool → IdxStep → Instr)
    (m6 m7 : Instr) (lo : Nibble) : Dec :=
  if lo.getLsbD 3 then .done (f (.register (WReg.ofSel (lowThree lo)))) else decLow f mm3 odd m6 m7 lo.toNat

/-- Group 0 of the opcode map (30_encoding.md R105). -/
def decGroup0 (lo : Nibble) : Dec :=
  match lo.toNat with
  | 0 => .done .hlt
  | 1 => .done .nop
  | 2 => .done .sf
  | 3 => .done .rf
  | 4 => .done .ei
  | 5 => .done .di
  | 6 => .done .sl
  | 7 => .done .rl
  | 8 => .done .cl
  | 9 => .done .rsr
  | 10 => .done .ri
  | 11 => .done .rim
  | 12 => .done .cf
  | 13 => .done .pcx
  | 14 => .done .dly
  | _ => .done .rsys

/-- Group 1 of the opcode map (30_encoding.md R105). -/
def decGroup1 (lo : Nibble) : Dec :=
  match lo.toNat with
  | 0 => decByte .bl
  | 1 => decByte .bnl
  | 2 => decByte .bf
  | 3 => decByte .bnf
  | 4 => decByte .bz
  | 5 => decByte .bnz
  | 6 => decByte .bm
  | 7 => decByte .bp
  | 8 => decByte .bs1
  | 9 => decByte .bns1
  | 10 => decByte .bs2
  | 11 => decByte .bns2
  | 12 => decByte .bs3
  | 13 => decByte .bns3
  | 14 => decByte .bs4
  | _ => decByte .bns4

/-- Group 2 of the opcode map (30_encoding.md R105). -/
def decGroup2 (lo : Nibble) : Dec :=
  match lo.toNat with
  | 0 => decNibbles .inrb
  | 1 => decNibbles .dcrb
  | 2 => decNibbles .clrb
  | 3 => decNibbles .ivrb
  | 4 => decNibbles .srrb
  | 5 => decNibbles .slrb
  | 6 => decNibbles .rrrb
  | 7 => decNibbles .rlrb
  | 8 => .done .inab
  | 9 => .done .dcab
  | 10 => .done .clab
  | 11 => .done .ivab
  | 12 => .done .srab
  | 13 => .done .slab
  | 14 => decMmu
  | _ => decDma

/-- Group 3 of the opcode map (30_encoding.md R105). -/
def decGroup3 (lo : Nibble) : Dec :=
  match lo.toNat with
  | 0 => decUnaryWord .inr .inrOdd
  | 1 => decUnaryWord .dcr .dcrOdd
  | 2 => decUnaryWord .clr .clrOdd
  | 3 => decUnaryWord .ivr .ivrOdd
  | 4 => decUnaryWord .srr .srrOdd
  | 5 => decUnaryWord .slr .slrOdd
  | 6 => decUnaryWord .rrr .rrrOdd
  | 7 => decUnaryWord .rlr .rlrOdd
  | 8 => .done .ina
  | 9 => .done .dca
  | 10 => .done .cla
  | 11 => .done .iva
  | 12 => .done .sra
  | 13 => .done .sla
  | 14 => decBlock .bcpy
  | _ => decBlock .bcmp

/-- Group 4 of the opcode map (30_encoding.md R105). -/
def decGroup4 (lo : Nibble) : Dec :=
  match lo.toNat with
  | 0 => decNibbles .addb
  | 1 => decNibbles .subb
  | 2 => decNibbles .andb
  | 3 => decNibbles .orib
  | 4 => decNibbles .oreb
  | 5 => decNibbles .xfrb
  | 6 => .done .reserved46
  | 7 => .done .reserved47
  | 8 => .done .aabb
  | 9 => .done .sabb
  | 10 => .done .nabb
  | 11 => .done .xaxb
  | 12 => .done .xayb
  | 13 => .done .xabb
  | 14 => .done .xazb
  | _ => .done .xasb

/-- Group 5 of the opcode map (30_encoding.md R105). -/
def decGroup5 (lo : Nibble) : Dec :=
  match lo.toNat with
  | 0 => decBinaryWord .add .addOddSrc .addOddDst
  | 1 => decBinaryWord .sub .subOddSrc .subOddDst
  | 2 => decBinaryWord .and .andOddSrc .andOddDst
  | 3 => decBinaryWord .ori .oriOddSrc .oriOddDst
  | 4 => decBinaryWord .ore .oreOddSrc .oreOddDst
  | 5 => decBinaryWord .xfr .xfrOddSrc .xfrOddDst
  | 6 => .done .reserved56
  | 7 => .done .reserved57
  | 8 => .done .aab
  | 9 => .done .sab
  | 10 => .done .nab
  | 11 => .done .xax
  | 12 => .done .xay
  | 13 => .done .xab
  | 14 => .done .xaz
  | _ => .done .xas

/-- Group 6: LDX with bit 3 clear, STX with bit 3 set (30_encoding.md R102, R105). -/
def decGroup6 (lo : Nibble) : Dec :=
  if lo.getLsbD 3 then decLow .stx .stxMm3 .stxOddIndex .stxMode6 .stxMode7 (lowThree lo).toNat
  else decLow .ldx .ldxMm3 .ldxOddIndex .ldxMode6 .ldxMode7 (lowThree lo).toNat

/-- Group 7: the jump half and the call half (46_jump_call_stack.md, its table; R365). -/
def decGroup7 (lo : Nibble) : Dec :=
  if lo.getLsbD 3 then
    match (lowThree lo).toNat with
    | 0 => .done .jsrLiteral
    | 6 => decNibbles .push
    | 7 => decNibbles .pop
    | m => decTail .jsr .jsrMm3 .jsrOddIndex m
  else
    match (lowThree lo).toNat with
    | 0 => .done .jmpLiteral
    | 6 => decByte .jsys
    | 7 => .done .jumpSub7
    | m => decTail .jmp .jmpMm3 .jmpOddIndex m

/-- The tree of an opcode byte: the high nibble is the group (30_encoding.md R100, R105). -/
def decodeOp (op : Byte) : Dec :=
  match (hiNibble op).toNat with
  | 0 => decGroup0 (loNibble op)
  | 1 => decGroup1 (loNibble op)
  | 2 => decGroup2 (loNibble op)
  | 3 => decGroup3 (loNibble op)
  | 4 => decGroup4 (loNibble op)
  | 5 => decGroup5 (loNibble op)
  | 6 => decGroup6 (loNibble op)
  | 7 => decGroup7 (loNibble op)
  | 8 => decFull .ldab .ldabMm3 .ldabOddIndex .ldabMode6 .ldabMode7 (loNibble op)
  | 9 => decFull .lda .ldaMm3 .ldaOddIndex .ldaMode6 .ldaMode7 (loNibble op)
  | 10 => decFull .stab .stabMm3 .stabOddIndex .stabMode6 .stabMode7 (loNibble op)
  | 11 => decFull .sta .staMm3 .staOddIndex .staMode6 .staMode7 (loNibble op)
  | 12 => decFull .ldbb .ldbbMm3 .ldbbOddIndex .ldbbMode6 .ldbbMode7 (loNibble op)
  | 13 => decFull .ldb .ldbMm3 .ldbOddIndex .ldbMode6 .ldbMode7 (loNibble op)
  | 14 => decFull .stbb .stbbMm3 .stbbOddIndex .stbbMode6 .stbbMode7 (loNibble op)
  | _ => decFull .stb .stbMm3 .stbOddIndex .stbMode6 .stbMode7 (loNibble op)

/-- The tree run on a list of bytes. -/
def Dec.run : Dec → List Byte → Except DecodeError (Instr × List Byte)
  | .done i, rest => .ok (i, rest)
  | .byte _, [] => .error .truncated
  | .byte k, b :: rest => (k b).run rest

/-- The instruction at the head of a list of bytes, and the bytes after it. -/
def decode : List Byte → Except DecodeError (Instr × List Byte)
  | [] => .error .truncated
  | op :: rest => (decodeOp op).run rest

/-- The six bytes, lowest address first, of an instruction numbered as the opcode table numbers it: the opcode in bits
15:8 and the second byte in bits 7:0 of the first 16-bit window, the next window in bits 31:16, and so on; eight bits
alone are an opcode (30_encoding.md, its head; assumption 7). -/
def tableBytes (nbits w : Nat) : List Byte :=
  let byteAt := fun k => BitVec.ofNat 8 (w / 2 ^ k)
  if nbits ≤ 8 ∧ w < 256 then [byteAt 0, 0, 0, 0, 0, 0]
  else [byteAt 8, byteAt 0, byteAt 24, byteAt 16, byteAt 40, byteAt 32]

/-- The instruction the decoder reads from the bits of a row of the opcode table. -/
def decodeTableWord (nbits w : Nat) : Option Instr :=
  match decode (tableBytes nbits w) with
  | .ok (i, _) => some i
  | .error _ => none

/-! ### The encoder -/

/-- The mode number (30_encoding.md R102). -/
def Mode.number : Mode → Nibble
  | .literal => 0
  | .direct _ => 1
  | .indirect _ => 2
  | .relative _ => 3
  | .relIndirect _ => 4
  | .indexed _ _ _ _ => 5
  | .register r => highBank r.sel

/-- The mode tail, without the literal's operand bytes, which belong to the instruction stream (30_encoding.md R102,
R104; assumption 6). -/
def Mode.tail : Mode → List Byte
  | .literal => []
  | .direct a => [hiByte a, loByte a]
  | .indirect a => [hiByte a, loByte a]
  | .relative d => [d]
  | .relIndirect d => [d]
  | .indexed r st i none => [modeByte r.hi false i st]
  | .indexed r st i (some d) => [modeByte r.hi true i st, d]
  | .register _ => []

/-- The bytes of an instruction, the opcode first (30_encoding.md R101 to R107). -/
def encode : Instr → List Byte
  | .hlt => [0x00]
  | .nop => [0x01]
  | .sf => [0x02]
  | .rf => [0x03]
  | .ei => [0x04]
  | .di => [0x05]
  | .sl => [0x06]
  | .rl => [0x07]
  | .cl => [0x08]
  | .rsr => [0x09]
  | .ri => [0x0A]
  | .rim => [0x0B]
  | .cf => [0x0C]
  | .pcx => [0x0D]
  | .dly => [0x0E]
  | .rsys => [0x0F]
  | .bl disp => [0x10, disp]
  | .bnl disp => [0x11, disp]
  | .bf disp => [0x12, disp]
  | .bnf disp => [0x13, disp]
  | .bz disp => [0x14, disp]
  | .bnz disp => [0x15, disp]
  | .bm disp => [0x16, disp]
  | .bp disp => [0x17, disp]
  | .bs1 disp => [0x18, disp]
  | .bns1 disp => [0x19, disp]
  | .bs2 disp => [0x1A, disp]
  | .bns2 disp => [0x1B, disp]
  | .bs3 disp => [0x1C, disp]
  | .bns3 disp => [0x1D, disp]
  | .bs4 disp => [0x1E, disp]
  | .bns4 disp => [0x1F, disp]
  | .inrb r n => [0x20, r ++ n]
  | .dcrb r n => [0x21, r ++ n]
  | .clrb r n => [0x22, r ++ n]
  | .ivrb r n => [0x23, r ++ n]
  | .srrb r n => [0x24, r ++ n]
  | .slrb r n => [0x25, r ++ n]
  | .rrrb r n => [0x26, r ++ n]
  | .rlrb r n => [0x27, r ++ n]
  | .inab => [0x28]
  | .dcab => [0x29]
  | .clab => [0x2A]
  | .ivab => [0x2B]
  | .srab => [0x2C]
  | .slab => [0x2D]
  | .inr r n => [0x30, r.hi ++ n]
  | .inrOdd r n => [0x30, oddSel r ++ n]
  | .dcr r n => [0x31, r.hi ++ n]
  | .dcrOdd r n => [0x31, oddSel r ++ n]
  | .clr r n => [0x32, r.hi ++ n]
  | .clrOdd r n => [0x32, oddSel r ++ n]
  | .ivr r n => [0x33, r.hi ++ n]
  | .ivrOdd r n => [0x33, oddSel r ++ n]
  | .srr r n => [0x34, r.hi ++ n]
  | .srrOdd r n => [0x34, oddSel r ++ n]
  | .slr r n => [0x35, r.hi ++ n]
  | .slrOdd r n => [0x35, oddSel r ++ n]
  | .rrr r n => [0x36, r.hi ++ n]
  | .rrrOdd r n => [0x36, oddSel r ++ n]
  | .rlr r n => [0x37, r.hi ++ n]
  | .rlrOdd r n => [0x37, oddSel r ++ n]
  | .ina => [0x38]
  | .dca => [0x39]
  | .cla => [0x3A]
  | .iva => [0x3B]
  | .sra => [0x3C]
  | .sla => [0x3D]
  | .ldmmu bank addr => [0x2E, 0x0#4 ++ lowBank bank, hiByte addr, loByte addr]
  | .ldmmuBadBank b => [0x2E, 0x0#4 ++ highBank b]
  | .stmmu bank addr => [0x2E, 0x1#4 ++ lowBank bank, hiByte addr, loByte addr]
  | .stmmuBadBank b => [0x2E, 0x1#4 ++ highBank b]
  | .reserved2E code low => [0x2E, code ++ low]
  | .lddma r => [0x2F, r.hi ++ 0#4]
  | .lddmaOdd r => [0x2F, oddSel r ++ 0#4]
  | .stdma r => [0x2F, r.hi ++ 1#4]
  | .stdmaOdd r => [0x2F, oddSel r ++ 1#4]
  | .lddmc r => [0x2F, r.hi ++ 2#4]
  | .lddmcOdd r => [0x2F, oddSel r ++ 2#4]
  | .stdmc r => [0x2F, r.hi ++ 3#4]
  | .stdmcOdd r => [0x2F, oddSel r ++ 3#4]
  | .sdmam m => [0x2F, m ++ 4#4]
  | .edma => [0x2F, 0x0#4 ++ 6#4]
  | .edmaPad pad => [0x2F, pad ++ 6#4]
  | .ddma => [0x2F, 0x0#4 ++ 7#4]
  | .ddmaPad pad => [0x2F, pad ++ 7#4]
  | .reserved2FSub5 r => [0x2F, r ++ 5#4]
  | .reserved2FSub8 r code => [0x2F, r ++ highBank code]
  | .bcpy n src dst => [0x3E, n, hiByte src, loByte src, hiByte dst, loByte dst]
  | .bcmp n src dst => [0x3F, n, hiByte src, loByte src, hiByte dst, loByte dst]
  | .addb src dst => [0x40, src ++ dst]
  | .subb src dst => [0x41, src ++ dst]
  | .andb src dst => [0x42, src ++ dst]
  | .orib src dst => [0x43, src ++ dst]
  | .oreb src dst => [0x44, src ++ dst]
  | .xfrb src dst => [0x45, src ++ dst]
  | .reserved46 => [0x46]
  | .reserved47 => [0x47]
  | .reserved56 => [0x56]
  | .reserved57 => [0x57]
  | .aabb => [0x48]
  | .sabb => [0x49]
  | .nabb => [0x4A]
  | .xaxb => [0x4B]
  | .xayb => [0x4C]
  | .xabb => [0x4D]
  | .xazb => [0x4E]
  | .xasb => [0x4F]
  | .add src dst => [0x50, src.hi ++ dst.hi]
  | .addOddSrc src dst => [0x50, oddSel src ++ dst]
  | .addOddDst src dst => [0x50, src.hi ++ oddSel dst]
  | .sub src dst => [0x51, src.hi ++ dst.hi]
  | .subOddSrc src dst => [0x51, oddSel src ++ dst]
  | .subOddDst src dst => [0x51, src.hi ++ oddSel dst]
  | .and src dst => [0x52, src.hi ++ dst.hi]
  | .andOddSrc src dst => [0x52, oddSel src ++ dst]
  | .andOddDst src dst => [0x52, src.hi ++ oddSel dst]
  | .ori src dst => [0x53, src.hi ++ dst.hi]
  | .oriOddSrc src dst => [0x53, oddSel src ++ dst]
  | .oriOddDst src dst => [0x53, src.hi ++ oddSel dst]
  | .ore src dst => [0x54, src.hi ++ dst.hi]
  | .oreOddSrc src dst => [0x54, oddSel src ++ dst]
  | .oreOddDst src dst => [0x54, src.hi ++ oddSel dst]
  | .xfr src dst => [0x55, src.hi ++ dst.hi]
  | .xfrOddSrc src dst => [0x55, oddSel src ++ dst]
  | .xfrOddDst src dst => [0x55, src.hi ++ oddSel dst]
  | .aab => [0x58]
  | .sab => [0x59]
  | .nab => [0x5A]
  | .xax => [0x5B]
  | .xay => [0x5C]
  | .xab => [0x5D]
  | .xaz => [0x5E]
  | .xas => [0x5F]
  | .ldx m => (0x6#4 ++ m.number) :: m.tail
  | .ldxMm3 hi => [0x65, hi ++ 3#2]
  | .ldxOddIndex r d ind st => [0x65, modeByte (oddSel r) d ind st]
  | .ldxMode6 => [0x66]
  | .ldxMode7 => [0x67]
  | .stx m => (0x6#4 ++ (0x8#4 ||| m.number)) :: m.tail
  | .stxMm3 hi => [0x6D, hi ++ 3#2]
  | .stxOddIndex r d ind st => [0x6D, modeByte (oddSel r) d ind st]
  | .stxMode6 => [0x6E]
  | .stxMode7 => [0x6F]
  | .ldab m => (0x8#4 ++ m.number) :: m.tail
  | .ldabMm3 hi => [0x85, hi ++ 3#2]
  | .ldabOddIndex r d ind st => [0x85, modeByte (oddSel r) d ind st]
  | .ldabMode6 => [0x86]
  | .ldabMode7 => [0x87]
  | .lda m => (0x9#4 ++ m.number) :: m.tail
  | .ldaMm3 hi => [0x95, hi ++ 3#2]
  | .ldaOddIndex r d ind st => [0x95, modeByte (oddSel r) d ind st]
  | .ldaMode6 => [0x96]
  | .ldaMode7 => [0x97]
  | .stab m => (0xA#4 ++ m.number) :: m.tail
  | .stabMm3 hi => [0xA5, hi ++ 3#2]
  | .stabOddIndex r d ind st => [0xA5, modeByte (oddSel r) d ind st]
  | .stabMode6 => [0xA6]
  | .stabMode7 => [0xA7]
  | .sta m => (0xB#4 ++ m.number) :: m.tail
  | .staMm3 hi => [0xB5, hi ++ 3#2]
  | .staOddIndex r d ind st => [0xB5, modeByte (oddSel r) d ind st]
  | .staMode6 => [0xB6]
  | .staMode7 => [0xB7]
  | .ldbb m => (0xC#4 ++ m.number) :: m.tail
  | .ldbbMm3 hi => [0xC5, hi ++ 3#2]
  | .ldbbOddIndex r d ind st => [0xC5, modeByte (oddSel r) d ind st]
  | .ldbbMode6 => [0xC6]
  | .ldbbMode7 => [0xC7]
  | .ldb m => (0xD#4 ++ m.number) :: m.tail
  | .ldbMm3 hi => [0xD5, hi ++ 3#2]
  | .ldbOddIndex r d ind st => [0xD5, modeByte (oddSel r) d ind st]
  | .ldbMode6 => [0xD6]
  | .ldbMode7 => [0xD7]
  | .stbb m => (0xE#4 ++ m.number) :: m.tail
  | .stbbMm3 hi => [0xE5, hi ++ 3#2]
  | .stbbOddIndex r d ind st => [0xE5, modeByte (oddSel r) d ind st]
  | .stbbMode6 => [0xE6]
  | .stbbMode7 => [0xE7]
  | .stb m => (0xF#4 ++ m.number) :: m.tail
  | .stbMm3 hi => [0xF5, hi ++ 3#2]
  | .stbOddIndex r d ind st => [0xF5, modeByte (oddSel r) d ind st]
  | .stbMode6 => [0xF6]
  | .stbMode7 => [0xF7]
  | .jmp m => (0x7#4 ++ m.number) :: m.tail
  | .jmpMm3 hi => [0x75, hi ++ 3#2]
  | .jmpOddIndex r d ind st => [0x75, modeByte (oddSel r) d ind st]
  | .jmpLiteral => [0x70]
  | .jsys arg => [0x76, arg]
  | .jumpSub7 => [0x77]
  | .jsr m => (0x7#4 ++ (0x8#4 ||| m.number)) :: m.tail
  | .jsrMm3 hi => [0x7D, hi ++ 3#2]
  | .jsrOddIndex r d ind st => [0x7D, modeByte (oddSel r) d ind st]
  | .jsrLiteral => [0x78]
  | .push r n => [0x7E, r ++ n]
  | .pop r n => [0x7F, r ++ n]

end Sys2Proof
end

