-- ==== Sys2Proof/Machine/Flags.lean ====
section
/-! DEFINITION. FLAGS (10_state.md R27 to R29) and every value-and-flag law of the ALU: the unary laws
(42_unary_alu.md R191 to R199), the binary laws (44_binary_alu.md R271 to R273), and the lookup tables as closed
formulas of their indices (10_state.md R40). A law takes the operand value(s) and the old FLAGS and gives the result and
the new FLAGS. -/

namespace Sys2Proof.Machine

/-- `V`, bit 3 of FLAGS: the zero flag (10_state.md R27). -/
def flagV (fl : FlagNibble) : Bool := fl.getLsbD 3

/-- `M`, bit 2 of FLAGS: the sign flag (10_state.md R27). -/
def flagM (fl : FlagNibble) : Bool := fl.getLsbD 2

/-- `F`, bit 1 of FLAGS: the fault flag (10_state.md R27). -/
def flagF (fl : FlagNibble) : Bool := fl.getLsbD 1

/-- `L`, bit 0 of FLAGS: the link flag (10_state.md R27). -/
def flagL (fl : FlagNibble) : Bool := fl.getLsbD 0

/-- FLAGS from its four bits, V in bit 3 down to L in bit 0 (10_state.md R27). -/
def packFlags (v m f l : Bool) : FlagNibble :=
  BitVec.ofBool v ++ BitVec.ofBool m ++ BitVec.ofBool f ++ BitVec.ofBool l

/-- FLAGS with V replaced. -/
def setV (fl : FlagNibble) (b : Bool) : FlagNibble := packFlags b (flagM fl) (flagF fl) (flagL fl)

/-- FLAGS with F replaced. -/
def setF (fl : FlagNibble) (b : Bool) : FlagNibble := packFlags (flagV fl) (flagM fl) b (flagL fl)

/-- FLAGS with L replaced. -/
def setL (fl : FlagNibble) (b : Bool) : FlagNibble := packFlags (flagV fl) (flagM fl) (flagF fl) b

/-- `setMV_N(r)`: M is the top bit of `r`, V is 1 exactly when `r = 0`; F and L keep their values (10_state.md R29). -/
def setMV {n : Nat} (r : BitVec n) (fl : FlagNibble) : FlagNibble :=
  packFlags (r == 0) r.msb (flagF fl) (flagL fl)

/-! ### Unary laws. Each takes the operand, the count (1..16) and the old FLAGS. -/

/-- `INC_N(v, c)` (42_unary_alu.md R191). -/
def incLaw {n : Nat} (v : BitVec n) (c : Nat) (fl : FlagNibble) : BitVec n × FlagNibble :=
  let r := v + BitVec.ofNat n c
  (r, setMV r fl)

/-- `DEC_N(v, c)` (42_unary_alu.md R192). -/
def decLaw {n : Nat} (v : BitVec n) (c : Nat) (fl : FlagNibble) : BitVec n × FlagNibble :=
  let r := v - BitVec.ofNat n c
  (r, setMV r fl)

/-- `CLRF_N`: the count is not used (42_unary_alu.md R193). -/
def clrLaw {n : Nat} (_v : BitVec n) (_c : Nat) (fl : FlagNibble) : BitVec n × FlagNibble :=
  (0, setMV (0 : BitVec n) fl)

/-- `INV_N(v)`: every bit complemented once, whatever the count (42_unary_alu.md R193). -/
def invLaw {n : Nat} (v : BitVec n) (_c : Nat) (fl : FlagNibble) : BitVec n × FlagNibble :=
  (~~~v, setMV (~~~v) fl)

/-- One step of the arithmetic right shift: L takes bit 0, the sign bit stays (42_unary_alu.md R194). -/
def shrStep {n : Nat} (p : BitVec n × Bool) : BitVec n × Bool :=
  ((p.1 >>> 1) ||| (p.1 &&& BitVec.twoPow n (n - 1)), p.1.getLsbD 0)

/-- One step of the left shift: L takes the top bit, 0 enters (42_unary_alu.md R195). -/
def shlStep {n : Nat} (p : BitVec n × Bool) : BitVec n × Bool :=
  (p.1 <<< 1, p.1.msb)

/-- One step of the rotate right through LINK (42_unary_alu.md R196). -/
def rorStep {n : Nat} (p : BitVec n × Bool) : BitVec n × Bool :=
  ((p.1 >>> 1) ||| (((BitVec.ofBool p.2).zeroExtend n) <<< (n - 1)), p.1.getLsbD 0)

/-- One step of the rotate left through LINK (42_unary_alu.md R197). -/
def rolStep {n : Nat} (p : BitVec n × Bool) : BitVec n × Bool :=
  ((p.1 <<< 1) ||| (BitVec.ofBool p.2).zeroExtend n, p.1.msb)

/-- `SHR_N(v, c)`: V, M, L written, F kept (42_unary_alu.md R194). -/
def shrLaw {n : Nat} (v : BitVec n) (c : Nat) (fl : FlagNibble) : BitVec n × FlagNibble :=
  let p := repeatN shrStep c (v, flagL fl)
  (p.1, setL (setMV p.1 fl) p.2)

/-- `SHL_N(v, c)`: V, M, L written, and F is 1 exactly when the result's sign differs from the operand's
(42_unary_alu.md R195). -/
def shlLaw {n : Nat} (v : BitVec n) (c : Nat) (fl : FlagNibble) : BitVec n × FlagNibble :=
  let p := repeatN shlStep c (v, flagL fl)
  (p.1, setF (setL (setMV p.1 fl) p.2) (v.msb != p.1.msb))

/-- `ROR_N(v, c, L)`: V, M, L written, F kept (42_unary_alu.md R196). -/
def rorLaw {n : Nat} (v : BitVec n) (c : Nat) (fl : FlagNibble) : BitVec n × FlagNibble :=
  let p := repeatN rorStep c (v, flagL fl)
  (p.1, setL (setMV p.1 fl) p.2)

/-- `ROL_N(v, c, L)`: V, M, L written, F kept (42_unary_alu.md R197). -/
def rolLaw {n : Nat} (v : BitVec n) (c : Nat) (fl : FlagNibble) : BitVec n × FlagNibble :=
  let p := repeatN rolStep c (v, flagL fl)
  (p.1, setL (setMV p.1 fl) p.2)

/-! ### Binary laws. Each takes the source value, the destination value and the old FLAGS. -/

/-- `ADD_w(s, d)`: the unbounded sum decides L; F unchanged (44_binary_alu.md R271). -/
def addLaw {n : Nat} (s d : BitVec n) (fl : FlagNibble) : BitVec n × FlagNibble :=
  let sum := s.toNat + d.toNat
  let r := BitVec.ofNat n sum
  (r, setL (setMV r fl) (decide (2 ^ n ≤ sum)))

/-- `SUB_w(s, d, variant)`: source minus destination; all four flags written. `strict` selects the result test of the F
formula, `rs < 0` (explicit word SUB) or `rs ≤ 0` (44_binary_alu.md R272). -/
def subLaw {n : Nat} (strict : Bool) (s d : BitVec n) (fl : FlagNibble) : BitVec n × FlagNibble :=
  let r := s - d
  let rtest := if strict then decide (r.toInt < 0) else decide (r.toInt ≤ 0)
  (r, setF (setL (setMV r fl) (decide (d.toNat ≤ s.toNat))) (s.msb != (d.msb && rtest)))

/-- The logic and transfer law for the bitwise and (44_binary_alu.md R273). -/
def andLaw {n : Nat} (s d : BitVec n) (fl : FlagNibble) : BitVec n × FlagNibble :=
  (s &&& d, setMV (s &&& d) fl)

/-- The logic and transfer law for the inclusive or (44_binary_alu.md R273). -/
def orLaw {n : Nat} (s d : BitVec n) (fl : FlagNibble) : BitVec n × FlagNibble :=
  (s ||| d, setMV (s ||| d) fl)

/-- The logic and transfer law for the exclusive or (44_binary_alu.md R273). -/
def xorLaw {n : Nat} (s d : BitVec n) (fl : FlagNibble) : BitVec n × FlagNibble :=
  (s ^^^ d, setMV (s ^^^ d) fl)

/-- The logic and transfer law for a transfer: the result is the source value (44_binary_alu.md R273). -/
def transferLaw {n : Nat} (s _d : BitVec n) (fl : FlagNibble) : BitVec n × FlagNibble :=
  (s, setMV s fl)

/-! ### The lookup tables, as functions of their indices (10_state.md R40, 42_unary_alu.md R198). -/

/-- MV8 and MV16: the flag nibble of a value, M and V meaningful (10_state.md R40). -/
def tableMV {n : Nat} (v : BitVec n) : FlagNibble := packFlags (v == 0) v.msb false false

/-- SRB[v][c]: the signed operand divided by `2^c`, rounded down, and its flag nibble, V M L meaningful, L the last bit
shifted out (42_unary_alu.md R194, R198). -/
def tableSRB (v : Byte) (c : Nat) : Byte × FlagNibble :=
  let r := BitVec.ofInt 8 (v.toInt / 2 ^ c)
  (r, packFlags (r == 0) r.msb false (decide (v.toInt / 2 ^ (c - 1) % 2 = 1)))

/-- SLB[v][c]: the operand times `2^c` modulo 2^8 and its flag nibble, V M F L meaningful, F the change of sign, L the
last bit shifted out (42_unary_alu.md R195, R198). -/
def tableSLB (v : Byte) (c : Nat) : Byte × FlagNibble :=
  let r := BitVec.ofNat 8 (v.toNat * 2 ^ c)
  (r, packFlags (r == 0) r.msb (v.msb != r.msb) (decide (v.toNat * 2 ^ (c - 1) / 128 % 2 = 1)))

/-- RRB[v][c][L]: the 9-bit ring `L ∥ v` turned right by `c` places: its low byte, and the flag nibble, V M L
meaningful, L the ring's top bit (42_unary_alu.md R196, R198). -/
def tableRRB (v : Byte) (c : Nat) (carry : Bool) : Byte × FlagNibble :=
  let ring := (BitVec.ofBool carry ++ v).rotateRight c
  let r := ring.extractLsb' 0 8
  (r, packFlags (r == 0) r.msb false ring.msb)

/-- RLB[v][c][L]: the 9-bit ring `L ∥ v` turned left by `c` places (42_unary_alu.md R197, R198). -/
def tableRLB (v : Byte) (c : Nat) (carry : Bool) : Byte × FlagNibble :=
  let ring := (BitVec.ofBool carry ++ v).rotateLeft c
  let r := ring.extractLsb' 0 8
  (r, packFlags (r == 0) r.msb false ring.msb)

/-- The `mask-and-or` merge of a table's flag nibble into FLAGS (42_unary_alu.md R198). -/
def mergeFlags (mask table fl : FlagNibble) : FlagNibble := (table &&& mask) ||| (fl &&& ~~~mask)

end Sys2Proof.Machine
end

