-- ==== Sys2Proof/Config.lean ====
section
/-! DEFINITION. What the host fixes for the machine (the parameters of 00_scope.md R3) and the one free value of the
model: what a device region answers on a read. The structures here are plain data held in State. -/

namespace Sys2Proof

/-- An entry of BRANCH_TABLE: the multiplier of the displacement, one of -1, 0, 1 (41_branch.md R171). -/
inductive Multiplier where
  | minusOne
  | zero
  | plusOne
  deriving DecidableEq, Repr

/-- The parameters of 00_scope.md R3 that are fixed for a run. No step changes them. -/
structure Config where
  /-- RESET_VECTOR: what reset loads into PC (00_scope.md R3). -/
  resetVector : Word := 0xFC00
  /-- JSYS_VECTOR: what JSYS loads into PC (00_scope.md R3). -/
  jsysVector : Word := 0x0100
  /-- The entries of BRANCH_TABLE that differ from the default contents, each with its 12-bit index
  (41_branch.md R171, 93_implementation_defined.md U7). Empty by default. Every table is some such list. -/
  branchOverrides : List (BitVec 12 × Multiplier) := []
  /-- The width of OPCOUNT in bits (00_scope.md R3, 93_implementation_defined.md U25): none, the default, is the
  unbounded natural number; at a width `w` the count is taken modulo `2^w` (assumption 11). -/
  opcountWidth : Option Nat := none
  deriving DecidableEq, Repr

/-- What a host region is, as the core's accesses tell the kinds apart (20_memory.md R60, R64, R66). -/
inductive RegionKind where
  /-- RAM returns the last byte written (93_implementation_defined.md U12). -/
  | ram
  /-- ROM returns its image and drops writes (20_memory.md R64). -/
  | rom
  /-- An opaque handler: each read is a free value, each access is recorded (20_memory.md R66, U12). -/
  | device
  deriving DecidableEq, Repr

/-- A host-registered contiguous range of physical addresses (20_memory.md R60, R61). -/
structure Region where
  start : Nat
  length : Nat
  kind : RegionKind
  deriving DecidableEq, Repr

/-- One event in the life of the host's device regions, in order: the core's reads and writes (20_memory.md R66) and
the host's own doings between steps (00_scope.md R4). -/
inductive BusEvent where
  | read (p : PAddr)
  | write (p : PAddr) (v : Byte)
  | host (tag : Nat)
  deriving DecidableEq, Repr

/-- FREE VALUE (assumption 2): the byte a device region answers when the core reads physical address `p` after the
device history `h`. 93_implementation_defined.md U12: `any value`: an oracle supplies each device read. No body:
nothing can be proved of it, and no two reads of one run share a history. -/
opaque Config.deviceByte (h : List BusEvent) (p : PAddr) : Byte

end Sys2Proof
end

