-- ==== Sys2Proof/Machine/State.lean ====
section
/-! DEFINITION. The state of the machine (10_state.md R20), plain data, its reset value (R42), and the reasons a step stops. -/

namespace Sys2Proof.Machine

/-- The DMA sub-state: four registers that only hold what is written to them (10_state.md R34). -/
structure Dma where
  /-- DMA.addr -/
  addr : Word
  /-- DMA.count -/
  count : Word
  /-- DMA.enabled -/
  enabled : Bool
  /-- DMA.mode -/
  mode : Nibble
  deriving DecidableEq, Repr

/-- The state. The fields from `pc` to `opcount` are the whole state of the block (10_state.md R20). The fields from
`cfg` on are the model's own: the parameters of 00_scope.md R3, the host's input, and the host's side of the memory
interface (assumptions 1, 2, 3 and 4). -/
structure State where
  /-- PC, the program counter, a logical address (R25). -/
  pc : Word
  /-- FLAGS: VALUE, MINUS, FAULT, LINK (R27). -/
  flags : FlagNibble
  /-- IPL, the interrupt priority level, which selects the register bank (R30). -/
  ipl : Nibble
  /-- IE, the interrupt-enable flag (R31). -/
  ie : Bool
  /-- HALTED (R32). -/
  halted : Bool
  /-- MB, the MMU-base register, which selects the page-table bank (R33). -/
  mb : BitVec 3
  /-- DMA.addr, DMA.count, DMA.enabled, DMA.mode (R34). -/
  dma : Dma
  /-- SRAM[0..255], the register file: 16 banks of 16 byte registers (R21 to R24). -/
  sram : Vector Byte 256
  /-- PT[0..7][0..31], the MMU page tables (R35). -/
  pt : Vector (Vector Byte 32) 8
  /-- OPCOUNT, the count of executed instructions (R36), of the width the parameters give (assumption 11). -/
  opcount : Nat
  /-- The parameters RESET_VECTOR, JSYS_VECTOR, BRANCH_TABLE and the width of OPCOUNT (00_scope.md R3). -/
  cfg : Config
  /-- SW, the 4-bit sense-switch input: the value the host last set (R37). -/
  sw : Nibble
  /-- REGIONS, in registration order (20_memory.md R60, R61). -/
  regions : List Region
  /-- The bytes the host's RAM and ROM regions hold, by physical address, in canonical form (20_memory.md R60). -/
  mem : List Host.Cell
  /-- What has happened to the device regions so far, newest first (20_memory.md R66). -/
  devLog : List BusEvent
  deriving DecidableEq, Repr

/-- Why the machine stops. The first four are the reasons of `Fatal(reason)` (60_exceptions.md R401). The spec leaves
the state after a Fatal undefined, so a fault carries none. -/
inductive Fault where
  /-- Raised by opcodes in addressing mode 6 or 7 and by the jump submodes 0 and 7 (R401). Safe: the spec's own outcome. -/
  | invalidAddressingMode
  /-- Raised by a mode-5 mode byte with bits 1:0 = 3 (R401). Safe: the spec's own outcome. -/
  | invalidIndexedSubmode
  /-- Raised by opcode 0x2E, sub-opcode 0 or 1, with bank field 8..15 (R401). Safe: the spec's own outcome. -/
  | mmuBankOutOfRange
  /-- Raised by the encodings with no instruction and by odd word-register selectors (R401). Safe: the spec's own outcome. -/
  | reservedEncoding
  /-- Raised to the host by its own registration of an overlapping region, never by a step (20_memory.md R61). Safe. -/
  | doubleRegistration
  deriving DecidableEq, Repr

/-- Why the model declines. No arm of exec uses it: every instruction has its meaning. -/
inductive Refusal where
  /-- An instruction without a meaning, by its mnemonic; raised by no arm. Safe: nothing can be proved of what it does. -/
  | notModelled (mnemonic : String)
  deriving DecidableEq, Repr

/-- The entries of a page-table bank after reset: 0..29 map to themselves, 30 to 0x7E, 31 to 0x7F (10_state.md R42). -/
def State.resetBank : Vector Byte 32 :=
  #v[0x00, 0x01, 0x02, 0x03, 0x04, 0x05, 0x06, 0x07, 0x08, 0x09, 0x0A, 0x0B, 0x0C, 0x0D, 0x0E, 0x0F,
     0x10, 0x11, 0x12, 0x13, 0x14, 0x15, 0x16, 0x17, 0x18, 0x19, 0x1A, 0x1B, 0x1C, 0x1D, 0x7E, 0x7F]

/-- The block after `reset()` with the host's side given (10_state.md R42, 70_reset_and_hazards.md R450). Reset does not
touch the parameters, SW, REGIONS, the region contents or the devices. -/
def State.resetWith (cfg : Config) (sw : Nibble) (regions : List Region) (mem : List Host.Cell)
    (devLog : List BusEvent) : State where
  pc := cfg.resetVector
  flags := 0
  ipl := 0
  ie := false
  halted := false
  mb := 0
  dma := { addr := 0, count := 0, enabled := false, mode := 0 }
  sram := Vector.replicate 256 0
  pt := Vector.replicate 8 State.resetBank
  opcount := 0
  cfg := cfg
  sw := sw
  regions := regions
  mem := mem
  devLog := devLog

/-- The machine right after reset, with the default parameters, SW = 0, no region registered, nothing stored and no
device history (10_state.md R42, 00_scope.md R3). -/
def State.reset : State := State.resetWith {} 0 [] [] []

end Sys2Proof.Machine
end

