-- ==== Sys2Proof/Machine/Ops.lean ====
section
/-! DEFINITION. The named operations over registers, memory and control state: the region store, the logical access path
(20_memory.md R60 to R75), the banked registers (10_state.md R21 to R24), fetch (R26), the stack (20_memory.md R80 to
R83), and interrupt entry and return (60_exceptions.md R403 to R409, 40_control.md R150). -/

namespace Sys2Proof.Machine

/-! ### The store behind the RAM and ROM regions -/

/-- What an address that nothing has listed reads as inside a RAM or ROM region (assumption 1: DESIGN CHOICE). -/
def unlistedByte : Byte := 0x00

/-- The byte the store holds at physical address `a`. -/
def Memory.read : List Host.Cell → Nat → Byte
  | [], _ => unlistedByte
  | (b, v) :: rest, a => if b = a then v else Memory.read rest a

/-- The store with byte `v` at physical address `a`, in canonical form if it was. -/
def Memory.write : List Host.Cell → Nat → Byte → List Host.Cell
  | [], a, v => if v = unlistedByte then [] else [(a, v)]
  | (b, w) :: rest, a, v =>
    if a < b then
      if v = unlistedByte then (b, w) :: rest else (a, v) :: (b, w) :: rest
    else if a = b then
      if v = unlistedByte then rest else (a, v) :: rest
    else (b, w) :: Memory.write rest a v

/-- The canonical form above a lower bound: addresses strictly rising, below 2^19, no entry equal to the unlisted byte. -/
def Memory.wfFrom (lo : Nat) : List Host.Cell → Bool
  | [] => true
  | (a, v) :: rest => decide (lo ≤ a) && decide (a < 2 ^ 19) && v != unlistedByte && Memory.wfFrom (a + 1) rest

/-- The canonical form of the store. -/
def Memory.wf (m : List Host.Cell) : Bool := Memory.wfFrom 0 m

/-! ### The physical memory space (20_memory.md R60 to R66) -/

/-- Whether a region's range contains a physical address (20_memory.md R61). -/
def Region.contains (r : Region) (p : PAddr) : Bool :=
  decide (r.start ≤ p.toNat) && decide (p.toNat < r.start + r.length)

/-- The kind of the first region, in registration order, that contains `p` (20_memory.md R61: `first match wins`). -/
def regionAt : List Region → PAddr → Option RegionKind
  | [], _ => none
  | r :: rest, p => if Region.contains r p then some r.kind else regionAt rest p

/-- The byte a read of physical address `p` answers: all ones where no region is (20_memory.md R62), the stored byte in
RAM and ROM, a free value in a device (93_implementation_defined.md U12). -/
def physByte (s : State) (p : PAddr) : Byte :=
  match regionAt s.regions p with
  | none => 0xFF
  | some .ram => Memory.read s.mem p.toNat
  | some .rom => Memory.read s.mem p.toNat
  | some .device => Config.deviceByte s.devLog p

/-- The state after a read of physical address `p`: a device records the read (20_memory.md R66). -/
def physReadDone (s : State) (p : PAddr) : State :=
  match regionAt s.regions p with
  | some .device => { s with devLog := .read p :: s.devLog }
  | _ => s

/-- The state after a byte write to physical address `p`: RAM stores it, ROM and unmapped space drop it
(20_memory.md R63, R64), a device receives it (R66). -/
def physWrite (s : State) (p : PAddr) (v : Byte) : State :=
  match regionAt s.regions p with
  | some .ram => { s with mem := Memory.write s.mem p.toNat v }
  | some .device => { s with devLog := .write p v :: s.devLog }
  | _ => s

/-! ### The register file (10_state.md R21 to R24) -/

/-- The byte `SRAM[i]`. -/
def sramByte (s : State) (i : Byte) : Byte := s.sram[i.toNat]'i.isLt

/-- `SRAM[i] <- v`. -/
def setSramByte (s : State) (i v : Byte) : State := { s with sram := s.sram.set i.toNat v i.isLt }

/-- `(k << 4) | i`: the SRAM index of byte register `i` of bank `k` (10_state.md R22, R24). -/
def regIndex (bank i : Nibble) : Byte := bank ++ i

/-- `x[i]`: byte register `i` of the current bank (10_state.md R22). -/
def getX (s : State) (i : Nibble) : Byte := sramByte s (regIndex s.ipl i)

/-- `x[i] <- v` (10_state.md R22). -/
def setX (s : State) (i : Nibble) (v : Byte) : State := setSramByte s (regIndex s.ipl i) v

/-- `xw[i]`: a word register of the current bank, high half at the even index (10_state.md R23). -/
def getXw (s : State) (r : WReg) : Word := wordOf (getX s r.hi) (getX s r.lo)

/-- `xw[i] <- v`: the high half is written first (10_state.md R23). -/
def setXw (s : State) (r : WReg) (v : Word) : State := setX (setX s r.hi (hiByte v)) r.lo (loByte v)

/-! ### Translation and the logical access path (20_memory.md R70 to R75) -/

/-- Where a logical byte access goes (20_memory.md R70). -/
inductive Place where
  | sram (i : Byte)
  | phys (p : PAddr)
  deriving DecidableEq, Repr

/-- `PT[b][e]` (10_state.md R35). -/
def ptEntry (s : State) (b : BitVec 3) (e : BitVec 5) : Byte := (s.pt[b.toNat]'b.isLt)[e.toNat]'e.isLt

/-- `PT[b][e] <- v` (10_state.md R35). -/
def setPtEntry (s : State) (b : BitVec 3) (e : BitVec 5) (v : Byte) : State :=
  { s with pt := s.pt.set b.toNat ((s.pt[b.toNat]'b.isLt).set e.toNat v e.isLt) b.isLt }

/-- `translate(a)`: `PT[MB][a[15:11]] ∥ a[10:0]`, the bank being MB, never IPL (20_memory.md R74). -/
def translate (s : State) (a : Word) : PAddr := ptEntry s s.mb (a.extractLsb' 11 5) ++ a.extractLsb' 0 11

/-- The one path of every access: SRAM below 0x0100, else the translated physical address (20_memory.md R70). -/
def resolve (s : State) (a : Word) : Place :=
  if a.toNat < 0x100 then .sram (a.extractLsb' 0 8) else .phys (translate s a)

/-- The byte a read of logical address `a` answers (20_memory.md R70, R71). -/
def readByte (s : State) (a : Word) : Byte :=
  match resolve s a with
  | .sram i => sramByte s i
  | .phys p => physByte s p

/-- The state after a read of logical address `a`: unchanged but for a device's record of it (20_memory.md R66). -/
def readDone (s : State) (a : Word) : State :=
  match resolve s a with
  | .sram _ => s
  | .phys p => physReadDone s p

/-- `MemRead(a, 1)` (20_memory.md R71). -/
def memRead8 (a : Word) (s : State) : Byte × State := (readByte s a, readDone s a)

/-- `MemRead(a, 2)`: the byte at `a` is the high byte and is read first (20_memory.md R65, R71). -/
def memRead16 (a : Word) (s : State) : Word × State :=
  let h := memRead8 a s
  let l := memRead8 (a + 1) h.2
  (wordOf h.1 l.1, l.2)

/-- `MemWrite(a, 1, v)` (20_memory.md R72). -/
def memWrite8 (a : Word) (v : Byte) (s : State) : State :=
  match resolve s a with
  | .sram i => setSramByte s i v
  | .phys p => physWrite s p v

/-- `MemWrite(a, 2, v)`: the high byte at `a` first (20_memory.md R65, R72). -/
def memWrite16 (a v : Word) (s : State) : State := memWrite8 (a + 1) (loByte v) (memWrite8 a (hiByte v) s)

/-! ### Fetch and the stack -/

/-- OPCOUNT after one more opcode byte: one more, modulo `2^w` where the parameter gives a width `w` (10_state.md R36,
00_scope.md R3, assumption 11). -/
def countOpcode (cfg : Config) (n : Nat) : Nat :=
  match cfg.opcountWidth with
  | none => n + 1
  | some w => (n + 1) % 2 ^ w

/-- Whether a count fits the width of OPCOUNT (00_scope.md R3). -/
def opcountFits (cfg : Config) (n : Nat) : Bool :=
  match cfg.opcountWidth with
  | none => true
  | some w => decide (n < 2 ^ w)

/-- `fetch8()`: a byte read at PC, PC advanced modulo 2^16 (10_state.md R26). -/
def fetch8 (s : State) : Byte × State :=
  let r := memRead8 s.pc s
  (r.1, { r.2 with pc := s.pc + 1 })

/-- `push8(v)` (20_memory.md R80). -/
def push8 (v : Byte) (s : State) : State :=
  let sp := getXw s .S - 1
  memWrite8 sp v (setXw s .S sp)

/-- `push16(v)` (20_memory.md R81). -/
def push16 (v : Word) (s : State) : State :=
  let sp := getXw s .S - 2
  memWrite16 sp v (setXw s .S sp)

/-- `pop8()` (20_memory.md R82). -/
def pop8 (s : State) : Byte × State :=
  let sp := getXw s .S
  let r := memRead8 sp s
  (r.1, setXw r.2 .S (sp + 1))

/-- `pop16()` (20_memory.md R83). -/
def pop16 (s : State) : Word × State :=
  let sp := getXw s .S
  let r := memRead16 sp s
  (r.1, setXw r.2 .S (sp + 2))

/-! ### Interrupt entry and return -/

/-- Acceptance: `IE = 1` and `level > IPL`; HALTED does not enter the test (60_exceptions.md R403). -/
def interruptAccepted (s : State) (level : Nibble) : Bool := s.ie && decide (s.ipl.toNat < level.toNat)

/-- Taking an interrupt: the seven steps of 60_exceptions.md R405, in that order. -/
def interruptEntry (level : Nibble) (s : State) : State :=
  let old := s.ipl
  let s1 := setXw s .P s.pc
  let s2 := setX s1 WReg.C.hi (setHiNibble (getX s1 WReg.C.hi) s1.flags)
  let s3 := { s2 with ipl := level }
  let s4 := setX s3 WReg.C.lo (setHiNibble (getX s3 WReg.C.lo) old)
  let s5 := { s4 with flags := hiNibble (getX s4 WReg.C.hi) }
  let s6 := { s5 with pc := getXw s5 .P }
  { s6 with halted := false }

/-- `trigger_interrupt(level)`: the level is taken modulo 16 (R402); a call that is not accepted changes nothing and is
not remembered (60_exceptions.md R404). -/
def triggerInterrupt (level : Nat) (s : State) : State :=
  let l := BitVec.ofNat 4 level
  if interruptAccepted s l then interruptEntry l s else s

/-- Return from interrupt, RI and RIM: IPL from `CL[7:4]` of the bank being left, then FLAGS and PC from the bank
entered; no register is written (40_control.md R150, 60_exceptions.md R409). -/
def interruptReturn (s : State) : State :=
  let prev := hiNibble (getX s WReg.C.lo)
  let s1 := { s with ipl := prev }
  let s2 := { s1 with flags := hiNibble (getX s1 WReg.C.hi) }
  { s2 with pc := getXw s2 .P }

/-! ### Subroutine return and the system call -/

/-- RSR: `pc <- X; X <- pop16()` (40_control.md R149). -/
def returnSubroutine (s : State) : State :=
  let s1 := { s with pc := getXw s .X }
  let r := pop16 s1
  setXw r.2 .X r.1

/-- JSYS after its argument byte is fetched: the four pushes in order, then X, MB and PC (46_jump_call_stack.md R362). -/
def systemCall (arg : Byte) (s : State) : State :=
  let s1 := push8 (s.mb.zeroExtend 8) s
  let s2 := push8 (s1.ipl.zeroExtend 8) s1
  let s3 := push16 (getXw s2 .X) s2
  let s4 := push8 arg s3
  let s5 := setXw s4 .X s4.pc
  { s5 with mb := 0, pc := s5.cfg.jsysVector }

/-- RSYS: the return address is the X held at entry; the four pops use the bank and the MB of the entry
(40_control.md R155). -/
def returnSystemCall (s : State) : State :=
  let ret := getXw s .X
  let arg := pop8 s
  let newX := pop16 arg.2
  let newI := pop8 newX.2
  let newM := pop8 newI.2
  let s1 := setXw newM.2 .X newX.1
  { s1 with ipl := loNibble newI.1, mb := newM.1.extractLsb' 0 3, pc := ret }

end Sys2Proof.Machine
end

