-- ==== Sys2Proof/Machine/Operands.lean ====
section
/-! DEFINITION. The operand forms: the effective-address resolver (45_load_store.md R310 to R321), the register forms of
the ALU groups (42_unary_alu.md R190, R199, 44_binary_alu.md R270), the loads and stores over them (R321, R325), the
branch condition (41_branch.md R170, R171), and the loops of the multi-byte instructions. -/

namespace Sys2Proof

/-- The multiplier as an integer (41_branch.md R171). -/
def Multiplier.toInt : Multiplier → Int
  | .minusOne => -1
  | .zero => 0
  | .plusOne => 1

end Sys2Proof

namespace Sys2Proof.Machine

/-! ### Addressing modes -/

/-- The operand size of an addressed instruction (45_load_store.md R320). -/
inductive Size where
  | byte
  | word
  deriving DecidableEq, Repr

/-- The size in bytes, which is also the step of an index register (45_load_store.md R320). -/
def Size.bytes : Size → Word
  | .byte => 1
  | .word => 2

/-- The byte-register index a register-direct mode addresses: the low half for a byte, the whole register from its
high half for a word (45_load_store.md R318). -/
def Size.regStart (r : WReg) : Size → Nibble
  | .byte => r.lo
  | .word => r.hi

/-- The displacement of an indexed mode: 0 where there is no displacement byte (45_load_store.md R316). -/
def idxDisp : Option Byte → Word
  | none => 0
  | some d => sext16 d

/-- Mode 5 (45_load_store.md R316): the pre-decrement, the base, the post-increment, the sum, the indirection, in that
order; the bytes of the mode tail have been fetched. -/
def eaIndexed (r : WReg) (st : IdxStep) (ind : Bool) (disp : Option Byte) (size : Size) (s : State) : Word × State :=
  let s1 := if st = .preDec then setXw s r (getXw s r - size.bytes) else s
  let base := getXw s1 r
  let s2 := if st = .postInc then setXw s1 r (base + size.bytes) else s1
  let a := base + idxDisp disp
  if ind then memRead16 a s2 else (a, s2)

/-- `EA(mode, size)`: the effective address and the state after it is computed (45_load_store.md R310 to R318). PC
already points past the mode tail's fetched bytes; the literal mode, whose bytes are not fetched, steps over them. -/
def effAddr (m : Mode) (size : Size) (s : State) : Word × State :=
  match m with
  | .literal => (s.pc, { s with pc := s.pc + size.bytes })
  | .direct a => (a, s)
  | .indirect p => memRead16 p s
  | .relative d => (s.pc + sext16 d, s)
  | .relIndirect d => memRead16 (s.pc + sext16 d) s
  | .indexed r st ind disp => eaIndexed r st ind disp size s
  | .register r => ((regIndex s.ipl (size.regStart r)).zeroExtend 16, s)

/-! ### Loads and stores: EA, the access, the register, the flags, in that order (45_load_store.md R321, R325) -/

/-- A byte load into byte register `i`. -/
def loadByte (i : Nibble) (m : Mode) (s : State) : State :=
  let ea := effAddr m .byte s
  let v := memRead8 ea.1 ea.2
  let t := setX v.2 i v.1
  { t with flags := setMV v.1 t.flags }

/-- A word load into word register `r`. -/
def loadWord (r : WReg) (m : Mode) (s : State) : State :=
  let ea := effAddr m .word s
  let v := memRead16 ea.1 ea.2
  let t := setXw v.2 r v.1
  { t with flags := setMV v.1 t.flags }

/-- A byte store from byte register `i`, read after EA. -/
def storeByte (i : Nibble) (m : Mode) (s : State) : State :=
  let ea := effAddr m .byte s
  let v := getX ea.2 i
  let t := memWrite8 ea.1 v ea.2
  { t with flags := setMV v t.flags }

/-- A word store from word register `r`, read after EA. -/
def storeWord (r : WReg) (m : Mode) (s : State) : State :=
  let ea := effAddr m .word s
  let v := getXw ea.2 r
  let t := memWrite16 ea.1 v ea.2
  { t with flags := setMV v t.flags }

/-! ### ALU register forms -/

/-- A unary law on byte register `r`, with a count field `n` meaning `n + 1` (42_unary_alu.md R190). -/
def unaryByte (law : Byte → Nat → FlagNibble → Byte × FlagNibble) (r n : Nibble) (s : State) : State :=
  let p := law (getX s r) (n.toNat + 1) s.flags
  { setX s r p.1 with flags := p.2 }

/-- A unary law on word register `r`, with a count field `n` meaning `n + 1` (42_unary_alu.md R190). -/
def unaryWord (law : Word → Nat → FlagNibble → Word × FlagNibble) (r : WReg) (n : Nibble) (s : State) : State :=
  let p := law (getXw s r) (n.toNat + 1) s.flags
  { setXw s r p.1 with flags := p.2 }

/-- A binary law on byte registers, the result to the destination (44_binary_alu.md R270). -/
def binaryByte (law : Byte → Byte → FlagNibble → Byte × FlagNibble) (src dst : Nibble) (s : State) : State :=
  let p := law (getX s src) (getX s dst) s.flags
  { setX s dst p.1 with flags := p.2 }

/-- A binary law on word registers, the result to the destination (44_binary_alu.md R270). -/
def binaryWord (law : Word → Word → FlagNibble → Word × FlagNibble) (src dst : WReg) (s : State) : State :=
  let p := law (getXw s src) (getXw s dst) s.flags
  { setXw s dst p.1 with flags := p.2 }

/-! ### Branches -/

/-- The default contents of BRANCH_TABLE: whether the entry is 1 (41_branch.md R171). -/
def branchCondition (fl : FlagNibble) (c sw : Nibble) : Bool :=
  match c.toNat with
  | 0 => flagL fl
  | 1 => !flagL fl
  | 2 => flagF fl
  | 3 => !flagF fl
  | 4 => flagV fl
  | 5 => !flagV fl
  | 6 => flagM fl
  | 7 => !flagM fl
  | 8 => sw.getLsbD 0
  | 9 => !sw.getLsbD 0
  | 10 => sw.getLsbD 1
  | 11 => !sw.getLsbD 1
  | 12 => sw.getLsbD 2
  | 13 => !sw.getLsbD 2
  | 14 => sw.getLsbD 3
  | _ => !sw.getLsbD 3

/-- The index of BRANCH_TABLE: `FLAGS << 8 | c << 4 | SW` (41_branch.md R171). -/
def branchIndex (fl : FlagNibble) (c sw : Nibble) : BitVec 12 := fl ++ c ++ sw

/-- `BRANCH_TABLE[FLAGS << 8 | c << 4 | SW]`: the parameter's entry, else the default's (41_branch.md R171). -/
def branchTable (cfg : Config) (fl : FlagNibble) (c sw : Nibble) : Multiplier :=
  match cfg.branchOverrides.lookup (branchIndex fl c sw) with
  | some m => m
  | none => if branchCondition fl c sw then .plusOne else .zero

/-- The branch instruction with condition code `c`: `pc <- (PC + m × signed_8(disp)) mod 2^16` (41_branch.md R170). -/
def branch (c : Nibble) (disp : Byte) (s : State) : State :=
  let m := branchTable s.cfg s.flags c s.sw
  { s with pc := BitVec.ofInt 16 (s.pc.toNat + m.toInt * disp.toInt) }

/-! ### Loops -/

/-- LDMMU's loop over the remaining `k` entries from entry `e` (43_mmu_dma_block.md R241). -/
def loadTable (b : BitVec 3) : Nat → BitVec 5 → Word → State → State
  | 0, _, _, s => s
  | k + 1, e, a, s =>
    let r := memRead8 a s
    loadTable b k (e + 1) (a + 1) (setPtEntry r.2 b e r.1)

/-- STMMU's loop over the remaining `k` entries from entry `e` (43_mmu_dma_block.md R242). -/
def storeTable (b : BitVec 3) : Nat → BitVec 5 → Word → State → State
  | 0, _, _, s => s
  | k + 1, e, a, s => storeTable b k (e + 1) (a + 1) (memWrite8 a (ptEntry s b e) s)

/-- BCPY's loop over the remaining `k` bytes: one byte read, then written, then the next (43_mmu_dma_block.md R251). -/
def blockCopy : Nat → Word → Word → State → State
  | 0, _, _, s => s
  | k + 1, src, dst, s =>
    let r := memRead8 src s
    blockCopy k (src + 1) (dst + 1) (memWrite8 dst r.1 r.2)

/-- BCMP's loop over the remaining `k` byte pairs; every pair is read even after a mismatch (43_mmu_dma_block.md R252). -/
def blockCompare : Nat → Word → Word → Bool → State → Bool × State
  | 0, _, _, eq, s => (eq, s)
  | k + 1, src, dst, eq, s =>
    let a := memRead8 src s
    let b := memRead8 dst a.2
    blockCompare k (src + 1) (dst + 1) (eq && a.1 == b.1) b.2

/-- PUSH's loop: registers `r + k - 1` down to `r`, the running pointer a private copy of S
(46_jump_call_stack.md R363). Gives the final pointer and the state. -/
def pushRun (r : Nibble) : Nat → Word → State → Word × State
  | 0, sp, s => (sp, s)
  | k + 1, sp, s => pushRun r k (sp - 1) (memWrite8 (sp - 1) (getX s (r + BitVec.ofNat 4 k)) s)

/-- What POP carries through its loop: the running pointer and the bytes held back for SH and SL
(46_jump_call_stack.md R364). -/
structure PopCarry where
  sp : Word
  newSH : Option Byte
  newSL : Option Byte
  deriving DecidableEq, Repr

/-- POP's loop over the remaining `k` registers from index `t` (46_jump_call_stack.md R364). -/
def popRun : Nat → Nibble → PopCarry → State → PopCarry × State
  | 0, _, c, s => (c, s)
  | k + 1, t, c, s =>
    let v := memRead8 c.sp s
    let sp := c.sp + 1
    if t = WReg.S.hi then popRun k (t + 1) { c with sp := sp, newSH := some v.1 } v.2
    else if t = WReg.S.lo then popRun k (t + 1) { c with sp := sp, newSL := some v.1 } v.2
    else popRun k (t + 1) { c with sp := sp } (setX v.2 t v.1)

/-- A byte register written where a byte was held back for it (46_jump_call_stack.md R364). -/
def setXIfSome (i : Nibble) (v : Option Byte) (s : State) : State :=
  match v with
  | some b => setX s i b
  | none => s

/-! ### Jumps, calls and the multi-register stack -/

/-- JMP: `ea <- EA(mode, 2); pc <- ea`; no memory is read at `ea` (46_jump_call_stack.md R360). -/
def jump (m : Mode) (s : State) : State :=
  let ea := effAddr m .word s
  { ea.2 with pc := ea.1 }

/-- JSR: EA, the push of X, the return address to X, the jump, in that order (46_jump_call_stack.md R361). -/
def callSubroutine (m : Mode) (s : State) : State :=
  let ea := effAddr m .word s
  let s1 := push16 (getXw ea.2 .X) ea.2
  let s2 := setXw s1 .X s1.pc
  { s2 with pc := ea.1 }

/-- PUSH of the `n + 1` registers from `r`; S is written once, at the end (46_jump_call_stack.md R363). -/
def pushRegisters (r n : Nibble) (s : State) : State :=
  let p := pushRun r (n.toNat + 1) (getXw s .S) s
  setXw p.2 .S p.1

/-- POP of the `n + 1` registers from `r`; S takes the advanced pointer, then the halves held back
(46_jump_call_stack.md R364). -/
def popRegisters (r n : Nibble) (s : State) : State :=
  let p := popRun (n.toNat + 1) r { sp := getXw s .S, newSH := none, newSL := none } s
  let s1 := setXw p.2 .S p.1.sp
  setXIfSome WReg.S.lo p.1.newSL (setXIfSome WReg.S.hi p.1.newSH s1)

end Sys2Proof.Machine
end

