-- ==== Sys2Proof/Machine/Binary.lean ====
section
/-! DEFINITION. The two-register ALU instructions (44_binary_alu.md). PC already points past the instruction's fetched bytes. -/

namespace Sys2Proof.Machine

/-- ADDB: add, byte registers (44_binary_alu.md R280). -/
def execAddb (src : Nibble) (dst : Nibble) (s : State) : Host.Outcome State Fault Refusal :=
  .next (binaryByte addLaw src dst s)

/-- SUBB: subtract, byte registers (44_binary_alu.md R281). -/
def execSubb (src : Nibble) (dst : Nibble) (s : State) : Host.Outcome State Fault Refusal :=
  .next (binaryByte (subLaw false) src dst s)

/-- ANDB: and, byte registers (44_binary_alu.md R282). -/
def execAndb (src : Nibble) (dst : Nibble) (s : State) : Host.Outcome State Fault Refusal :=
  .next (binaryByte andLaw src dst s)

/-- ORIB: inclusive or, byte registers (44_binary_alu.md R283). -/
def execOrib (src : Nibble) (dst : Nibble) (s : State) : Host.Outcome State Fault Refusal :=
  .next (binaryByte orLaw src dst s)

/-- OREB: exclusive or, byte registers (44_binary_alu.md R284). -/
def execOreb (src : Nibble) (dst : Nibble) (s : State) : Host.Outcome State Fault Refusal :=
  .next (binaryByte xorLaw src dst s)

/-- XFRB: transfer, byte registers (44_binary_alu.md R285). -/
def execXfrb (src : Nibble) (dst : Nibble) (s : State) : Host.Outcome State Fault Refusal :=
  .next (binaryByte transferLaw src dst s)

/-- AABB: add AL to BL (44_binary_alu.md R286). -/
def execAabb (s : State) : Host.Outcome State Fault Refusal :=
  .next (binaryByte addLaw WReg.A.lo WReg.B.lo s)

/-- SABB: subtract BL from AL into BL (44_binary_alu.md R287). -/
def execSabb (s : State) : Host.Outcome State Fault Refusal :=
  .next (binaryByte (subLaw false) WReg.A.lo WReg.B.lo s)

/-- NABB: and AL into BL (44_binary_alu.md R288). -/
def execNabb (s : State) : Host.Outcome State Fault Refusal :=
  .next (binaryByte andLaw WReg.A.lo WReg.B.lo s)

/-- XAXB: transfer AL to XL (44_binary_alu.md R289). -/
def execXaxb (s : State) : Host.Outcome State Fault Refusal :=
  .next (binaryByte transferLaw WReg.A.lo WReg.X.lo s)

/-- XAYB: transfer AL to YL (44_binary_alu.md R290). -/
def execXayb (s : State) : Host.Outcome State Fault Refusal :=
  .next (binaryByte transferLaw WReg.A.lo WReg.Y.lo s)

/-- XABB: transfer AL to BL (44_binary_alu.md R291). -/
def execXabb (s : State) : Host.Outcome State Fault Refusal :=
  .next (binaryByte transferLaw WReg.A.lo WReg.B.lo s)

/-- XAZB: transfer AL to ZL (44_binary_alu.md R292). -/
def execXazb (s : State) : Host.Outcome State Fault Refusal :=
  .next (binaryByte transferLaw WReg.A.lo WReg.Z.lo s)

/-- XASB: transfer AL to SL (44_binary_alu.md R293). -/
def execXasb (s : State) : Host.Outcome State Fault Refusal :=
  .next (binaryByte transferLaw WReg.A.lo WReg.S.lo s)

/-- ADD: add, word registers (44_binary_alu.md R294). -/
def execAdd (src : WReg) (dst : WReg) (s : State) : Host.Outcome State Fault Refusal :=
  .next (binaryWord addLaw src dst s)

/-- SUB: subtract, strict, word registers (44_binary_alu.md R295). -/
def execSub (src : WReg) (dst : WReg) (s : State) : Host.Outcome State Fault Refusal :=
  .next (binaryWord (subLaw true) src dst s)

/-- AND: and, word registers (44_binary_alu.md R296). -/
def execAnd (src : WReg) (dst : WReg) (s : State) : Host.Outcome State Fault Refusal :=
  .next (binaryWord andLaw src dst s)

/-- ORI: inclusive or, word registers (44_binary_alu.md R297). -/
def execOri (src : WReg) (dst : WReg) (s : State) : Host.Outcome State Fault Refusal :=
  .next (binaryWord orLaw src dst s)

/-- ORE: exclusive or, word registers (44_binary_alu.md R298). -/
def execOre (src : WReg) (dst : WReg) (s : State) : Host.Outcome State Fault Refusal :=
  .next (binaryWord xorLaw src dst s)

/-- XFR: transfer, word registers (44_binary_alu.md R299). -/
def execXfr (src : WReg) (dst : WReg) (s : State) : Host.Outcome State Fault Refusal :=
  .next (binaryWord transferLaw src dst s)

/-- AAB: add A to B (44_binary_alu.md R300). -/
def execAab (s : State) : Host.Outcome State Fault Refusal :=
  .next (binaryWord addLaw .A .B s)

/-- SAB: subtract B from A into B (44_binary_alu.md R301). -/
def execSab (s : State) : Host.Outcome State Fault Refusal :=
  .next (binaryWord (subLaw false) .A .B s)

/-- NAB: and A into B (44_binary_alu.md R302). -/
def execNab (s : State) : Host.Outcome State Fault Refusal :=
  .next (binaryWord andLaw .A .B s)

/-- XAX: transfer A to X (44_binary_alu.md R303). -/
def execXax (s : State) : Host.Outcome State Fault Refusal :=
  .next (binaryWord transferLaw .A .X s)

/-- XAY: transfer A to Y (44_binary_alu.md R304). -/
def execXay (s : State) : Host.Outcome State Fault Refusal :=
  .next (binaryWord transferLaw .A .Y s)

/-- XAB: transfer A to B (44_binary_alu.md R305). -/
def execXab (s : State) : Host.Outcome State Fault Refusal :=
  .next (binaryWord transferLaw .A .B s)

/-- XAZ: transfer A to Z (44_binary_alu.md R306). -/
def execXaz (s : State) : Host.Outcome State Fault Refusal :=
  .next (binaryWord transferLaw .A .Z s)

/-- XAS: transfer A to S (44_binary_alu.md R307). -/
def execXas (s : State) : Host.Outcome State Fault Refusal :=
  .next (binaryWord transferLaw .A .S s)

end Sys2Proof.Machine
end

