-- ==== Sys2Proof/Machine/Branch.lean ====
section
/-! DEFINITION. The branch group (41_branch.md). PC already points past the instruction's fetched bytes. -/

namespace Sys2Proof.Machine

/-- BL: branch if LINK set (41_branch.md R172). -/
def execBl (disp : Byte) (s : State) : Host.Outcome State Fault Refusal :=
  .next (branch 0 disp s)

/-- BNL: branch if LINK clear (41_branch.md R173). -/
def execBnl (disp : Byte) (s : State) : Host.Outcome State Fault Refusal :=
  .next (branch 1 disp s)

/-- BF: branch if FAULT set (41_branch.md R174). -/
def execBf (disp : Byte) (s : State) : Host.Outcome State Fault Refusal :=
  .next (branch 2 disp s)

/-- BNF: branch if FAULT clear (41_branch.md R175). -/
def execBnf (disp : Byte) (s : State) : Host.Outcome State Fault Refusal :=
  .next (branch 3 disp s)

/-- BZ: branch if zero (41_branch.md R176). -/
def execBz (disp : Byte) (s : State) : Host.Outcome State Fault Refusal :=
  .next (branch 4 disp s)

/-- BNZ: branch if not zero (41_branch.md R177). -/
def execBnz (disp : Byte) (s : State) : Host.Outcome State Fault Refusal :=
  .next (branch 5 disp s)

/-- BM: branch if minus (41_branch.md R178). -/
def execBm (disp : Byte) (s : State) : Host.Outcome State Fault Refusal :=
  .next (branch 6 disp s)

/-- BP: branch if plus (41_branch.md R179). -/
def execBp (disp : Byte) (s : State) : Host.Outcome State Fault Refusal :=
  .next (branch 7 disp s)

/-- BS1: branch if switch 1 set (41_branch.md R180). -/
def execBs1 (disp : Byte) (s : State) : Host.Outcome State Fault Refusal :=
  .next (branch 8 disp s)

/-- BNS1: branch if switch 1 clear (41_branch.md R181). -/
def execBns1 (disp : Byte) (s : State) : Host.Outcome State Fault Refusal :=
  .next (branch 9 disp s)

/-- BS2: branch if switch 2 set (41_branch.md R182). -/
def execBs2 (disp : Byte) (s : State) : Host.Outcome State Fault Refusal :=
  .next (branch 10 disp s)

/-- BNS2: branch if switch 2 clear (41_branch.md R183). -/
def execBns2 (disp : Byte) (s : State) : Host.Outcome State Fault Refusal :=
  .next (branch 11 disp s)

/-- BS3: branch if switch 3 set (41_branch.md R184). -/
def execBs3 (disp : Byte) (s : State) : Host.Outcome State Fault Refusal :=
  .next (branch 12 disp s)

/-- BNS3: branch if switch 3 clear (41_branch.md R185). -/
def execBns3 (disp : Byte) (s : State) : Host.Outcome State Fault Refusal :=
  .next (branch 13 disp s)

/-- BS4: branch if switch 4 set (41_branch.md R186). -/
def execBs4 (disp : Byte) (s : State) : Host.Outcome State Fault Refusal :=
  .next (branch 14 disp s)

/-- BNS4: branch if switch 4 clear (41_branch.md R187). -/
def execBns4 (disp : Byte) (s : State) : Host.Outcome State Fault Refusal :=
  .next (branch 15 disp s)

end Sys2Proof.Machine
end

