-- ==== Sys2Proof/Machine/Control.lean ====
section
/-! DEFINITION. The control group (40_control.md). PC already points past the instruction's fetched bytes. -/

namespace Sys2Proof.Machine

/-- HLT: halt (40_control.md R140). -/
def execHlt (s : State) : Host.Outcome State Fault Refusal :=
  .next { s with halted := true }

/-- NOP: no operation (40_control.md R141). -/
def execNop (s : State) : Host.Outcome State Fault Refusal :=
  .next s

/-- SF: set FAULT (40_control.md R142). -/
def execSf (s : State) : Host.Outcome State Fault Refusal :=
  .next { s with flags := setF s.flags true }

/-- RF: reset FAULT (40_control.md R143). -/
def execRf (s : State) : Host.Outcome State Fault Refusal :=
  .next { s with flags := setF s.flags false }

/-- EI: enable interrupts (40_control.md R144). -/
def execEi (s : State) : Host.Outcome State Fault Refusal :=
  .next { s with ie := true }

/-- DI: disable interrupts (40_control.md R145). -/
def execDi (s : State) : Host.Outcome State Fault Refusal :=
  .next { s with ie := false }

/-- SL: set LINK (40_control.md R146). -/
def execSl (s : State) : Host.Outcome State Fault Refusal :=
  .next { s with flags := setL s.flags true }

/-- RL: reset LINK (40_control.md R147). -/
def execRl (s : State) : Host.Outcome State Fault Refusal :=
  .next { s with flags := setL s.flags false }

/-- CL: complement LINK (40_control.md R148). -/
def execCl (s : State) : Host.Outcome State Fault Refusal :=
  .next { s with flags := setL s.flags (!flagL s.flags) }

/-- RSR: return from subroutine (40_control.md R149). -/
def execRsr (s : State) : Host.Outcome State Fault Refusal :=
  .next (returnSubroutine s)

/-- RI: return from interrupt (40_control.md R150). -/
def execRi (s : State) : Host.Outcome State Fault Refusal :=
  .next (interruptReturn s)

/-- RIM: return from interrupt, second form (40_control.md R151). -/
def execRim (s : State) : Host.Outcome State Fault Refusal :=
  .next (interruptReturn s)

/-- CF: complement FAULT (40_control.md R152). -/
def execCf (s : State) : Host.Outcome State Fault Refusal :=
  .next { s with flags := setF s.flags (!flagF s.flags) }

/-- PCX: transfer PC to X (40_control.md R153). -/
def execPcx (s : State) : Host.Outcome State Fault Refusal :=
  .next (setXw s .X s.pc)

/-- DLY: delay, which is a NOP (40_control.md R154). -/
def execDly (s : State) : Host.Outcome State Fault Refusal :=
  .next s

/-- RSYS: return from system call (40_control.md R155). -/
def execRsys (s : State) : Host.Outcome State Fault Refusal :=
  .next (returnSystemCall s)

end Sys2Proof.Machine
end

