-- ==== Sys2Proof/Machine/Jump.lean ====
section
/-! DEFINITION. Jump, call, system call and the multi-register stack (46_jump_call_stack.md). PC already points past the instruction's fetched bytes. -/

namespace Sys2Proof.Machine

/-- JMP: unconditional jump (46_jump_call_stack.md R360). -/
def execJmp (m : Mode) (s : State) : Host.Outcome State Fault Refusal :=
  .next (jump m s)

/-- JSYS: system call trap (46_jump_call_stack.md R362). -/
def execJsys (arg : Byte) (s : State) : Host.Outcome State Fault Refusal :=
  .next (systemCall arg s)

/-- JSR: jump to subroutine (46_jump_call_stack.md R361). -/
def execJsr (m : Mode) (s : State) : Host.Outcome State Fault Refusal :=
  .next (callSubroutine m s)

/-- PUSH: push `n + 1` byte registers from `r` (46_jump_call_stack.md R363). -/
def execPush (r : Nibble) (n : Nibble) (s : State) : Host.Outcome State Fault Refusal :=
  .next (pushRegisters r n s)

/-- POP: pop `n + 1` byte registers from `r` (46_jump_call_stack.md R364). -/
def execPop (r : Nibble) (n : Nibble) (s : State) : Host.Outcome State Fault Refusal :=
  .next (popRegisters r n s)

end Sys2Proof.Machine
end

