-- ==== Sys2Proof/Machine/LoadStore.lean ====
section
/-! DEFINITION. The addressed loads and stores (45_load_store.md). PC already points past the instruction's fetched bytes. -/

namespace Sys2Proof.Machine

/-- LDX: load X, addressed (45_load_store.md R326). -/
def execLdx (m : Mode) (s : State) : Host.Outcome State Fault Refusal :=
  .next (loadWord .X m s)

/-- STX: store X, addressed (45_load_store.md R327). -/
def execStx (m : Mode) (s : State) : Host.Outcome State Fault Refusal :=
  .next (storeWord .X m s)

/-- LDAB: load AL, addressed (45_load_store.md R328). -/
def execLdab (m : Mode) (s : State) : Host.Outcome State Fault Refusal :=
  .next (loadByte WReg.A.lo m s)

/-- LDA: load A, addressed (45_load_store.md R329). -/
def execLda (m : Mode) (s : State) : Host.Outcome State Fault Refusal :=
  .next (loadWord .A m s)

/-- STAB: store AL, addressed (45_load_store.md R330). -/
def execStab (m : Mode) (s : State) : Host.Outcome State Fault Refusal :=
  .next (storeByte WReg.A.lo m s)

/-- STA: store A, addressed (45_load_store.md R331). -/
def execSta (m : Mode) (s : State) : Host.Outcome State Fault Refusal :=
  .next (storeWord .A m s)

/-- LDBB: load BL, addressed (45_load_store.md R332). -/
def execLdbb (m : Mode) (s : State) : Host.Outcome State Fault Refusal :=
  .next (loadByte WReg.B.lo m s)

/-- LDB: load B, addressed (45_load_store.md R333). -/
def execLdb (m : Mode) (s : State) : Host.Outcome State Fault Refusal :=
  .next (loadWord .B m s)

/-- STBB: store BL, addressed (45_load_store.md R334). -/
def execStbb (m : Mode) (s : State) : Host.Outcome State Fault Refusal :=
  .next (storeByte WReg.B.lo m s)

/-- STB: store B, addressed (45_load_store.md R335). -/
def execStb (m : Mode) (s : State) : Host.Outcome State Fault Refusal :=
  .next (storeWord .B m s)

end Sys2Proof.Machine
end

