-- ==== Sys2Proof/Machine/Reserved.lean ====
section
/-! DEFINITION. The encodings with no instruction (30_encoding.md R118, R119): each ends the step with the Fatal outcome
the opcode table gives its row. No state is answered: the state after a Fatal is not defined (60_exceptions.md R401). -/

namespace Sys2Proof.Machine

/-- INR__odd_register: INR with the odd selector `2r + 1` (30_encoding.md R119). -/
def execInrOdd (_r : BitVec 3) (_n : Nibble) (_s : State) : Host.Outcome State Fault Refusal :=
  .fault .reservedEncoding

/-- DCR__odd_register: DCR with the odd selector `2r + 1` (30_encoding.md R119). -/
def execDcrOdd (_r : BitVec 3) (_n : Nibble) (_s : State) : Host.Outcome State Fault Refusal :=
  .fault .reservedEncoding

/-- CLR__odd_register: CLR with the odd selector `2r + 1` (30_encoding.md R119). -/
def execClrOdd (_r : BitVec 3) (_n : Nibble) (_s : State) : Host.Outcome State Fault Refusal :=
  .fault .reservedEncoding

/-- IVR__odd_register: IVR with the odd selector `2r + 1` (30_encoding.md R119). -/
def execIvrOdd (_r : BitVec 3) (_n : Nibble) (_s : State) : Host.Outcome State Fault Refusal :=
  .fault .reservedEncoding

/-- SRR__odd_register: SRR with the odd selector `2r + 1` (30_encoding.md R119). -/
def execSrrOdd (_r : BitVec 3) (_n : Nibble) (_s : State) : Host.Outcome State Fault Refusal :=
  .fault .reservedEncoding

/-- SLR__odd_register: SLR with the odd selector `2r + 1` (30_encoding.md R119). -/
def execSlrOdd (_r : BitVec 3) (_n : Nibble) (_s : State) : Host.Outcome State Fault Refusal :=
  .fault .reservedEncoding

/-- RRR__odd_register: RRR with the odd selector `2r + 1` (30_encoding.md R119). -/
def execRrrOdd (_r : BitVec 3) (_n : Nibble) (_s : State) : Host.Outcome State Fault Refusal :=
  .fault .reservedEncoding

/-- RLR__odd_register: RLR with the odd selector `2r + 1` (30_encoding.md R119). -/
def execRlrOdd (_r : BitVec 3) (_n : Nibble) (_s : State) : Host.Outcome State Fault Refusal :=
  .fault .reservedEncoding

/-- LDMMU__bank_8..15: LDMMU with bank `8 + b` (43_mmu_dma_block.md R240). -/
def execLdmmuBadBank (_b : BitVec 3) (_s : State) : Host.Outcome State Fault Refusal :=
  .fault .mmuBankOutOfRange

/-- STMMU__bank_8..15: STMMU with bank `8 + b` (43_mmu_dma_block.md R240). -/
def execStmmuBadBank (_b : BitVec 3) (_s : State) : Host.Outcome State Fault Refusal :=
  .fault .mmuBankOutOfRange

/-- reserved__0x2E_sub-opcode_2..15: opcode 0x2E with sub-opcode `code` of 2..15 (43_mmu_dma_block.md R253). -/
def execReserved2E (_code : Nibble) (_low : Nibble) (_s : State) : Host.Outcome State Fault Refusal :=
  .fault .reservedEncoding

/-- LDDMA__odd_register: LDDMA with the odd selector `2r + 1` (30_encoding.md R119). -/
def execLddmaOdd (_r : BitVec 3) (_s : State) : Host.Outcome State Fault Refusal :=
  .fault .reservedEncoding

/-- STDMA__odd_register: STDMA with the odd selector `2r + 1` (30_encoding.md R119). -/
def execStdmaOdd (_r : BitVec 3) (_s : State) : Host.Outcome State Fault Refusal :=
  .fault .reservedEncoding

/-- LDDMC__odd_register: LDDMC with the odd selector `2r + 1` (30_encoding.md R119). -/
def execLddmcOdd (_r : BitVec 3) (_s : State) : Host.Outcome State Fault Refusal :=
  .fault .reservedEncoding

/-- STDMC__odd_register: STDMC with the odd selector `2r + 1` (30_encoding.md R119). -/
def execStdmcOdd (_r : BitVec 3) (_s : State) : Host.Outcome State Fault Refusal :=
  .fault .reservedEncoding

/-- EDMA__non-zero_pad: EDMA with a non-zero pad (43_mmu_dma_block.md R253). -/
def execEdmaPad (_pad : Nibble) (_s : State) : Host.Outcome State Fault Refusal :=
  .fault .reservedEncoding

/-- DDMA__non-zero_pad: DDMA with a non-zero pad (43_mmu_dma_block.md R253). -/
def execDdmaPad (_pad : Nibble) (_s : State) : Host.Outcome State Fault Refusal :=
  .fault .reservedEncoding

/-- reserved__0x2F_sub-opcode_5: opcode 0x2F with sub-opcode 5 (43_mmu_dma_block.md R253). -/
def execReserved2FSub5 (_r : Nibble) (_s : State) : Host.Outcome State Fault Refusal :=
  .fault .reservedEncoding

/-- reserved__0x2F_sub-opcode_8..15: opcode 0x2F with sub-opcode `8 + code` (43_mmu_dma_block.md R253). -/
def execReserved2FSub8 (_r : Nibble) (_code : BitVec 3) (_s : State) : Host.Outcome State Fault Refusal :=
  .fault .reservedEncoding

/-- (reserved): opcode 0x46, which has no instruction (30_encoding.md R118). -/
def execReserved46 (_s : State) : Host.Outcome State Fault Refusal :=
  .fault .reservedEncoding

/-- (reserved): opcode 0x47, which has no instruction (30_encoding.md R118). -/
def execReserved47 (_s : State) : Host.Outcome State Fault Refusal :=
  .fault .reservedEncoding

/-- (reserved): opcode 0x56, which has no instruction (30_encoding.md R118). -/
def execReserved56 (_s : State) : Host.Outcome State Fault Refusal :=
  .fault .reservedEncoding

/-- (reserved): opcode 0x57, which has no instruction (30_encoding.md R118). -/
def execReserved57 (_s : State) : Host.Outcome State Fault Refusal :=
  .fault .reservedEncoding

/-- ADD__odd_source_register: ADD with the odd source selector `2 src + 1` (30_encoding.md R119). -/
def execAddOddSrc (_src : BitVec 3) (_dst : Nibble) (_s : State) : Host.Outcome State Fault Refusal :=
  .fault .reservedEncoding

/-- ADD__odd_destination_register: ADD with the odd destination selector `2 dst + 1` (30_encoding.md R119). -/
def execAddOddDst (_src : WReg) (_dst : BitVec 3) (_s : State) : Host.Outcome State Fault Refusal :=
  .fault .reservedEncoding

/-- SUB__odd_source_register: SUB with the odd source selector `2 src + 1` (30_encoding.md R119). -/
def execSubOddSrc (_src : BitVec 3) (_dst : Nibble) (_s : State) : Host.Outcome State Fault Refusal :=
  .fault .reservedEncoding

/-- SUB__odd_destination_register: SUB with the odd destination selector `2 dst + 1` (30_encoding.md R119). -/
def execSubOddDst (_src : WReg) (_dst : BitVec 3) (_s : State) : Host.Outcome State Fault Refusal :=
  .fault .reservedEncoding

/-- AND__odd_source_register: AND with the odd source selector `2 src + 1` (30_encoding.md R119). -/
def execAndOddSrc (_src : BitVec 3) (_dst : Nibble) (_s : State) : Host.Outcome State Fault Refusal :=
  .fault .reservedEncoding

/-- AND__odd_destination_register: AND with the odd destination selector `2 dst + 1` (30_encoding.md R119). -/
def execAndOddDst (_src : WReg) (_dst : BitVec 3) (_s : State) : Host.Outcome State Fault Refusal :=
  .fault .reservedEncoding

/-- ORI__odd_source_register: ORI with the odd source selector `2 src + 1` (30_encoding.md R119). -/
def execOriOddSrc (_src : BitVec 3) (_dst : Nibble) (_s : State) : Host.Outcome State Fault Refusal :=
  .fault .reservedEncoding

/-- ORI__odd_destination_register: ORI with the odd destination selector `2 dst + 1` (30_encoding.md R119). -/
def execOriOddDst (_src : WReg) (_dst : BitVec 3) (_s : State) : Host.Outcome State Fault Refusal :=
  .fault .reservedEncoding

/-- ORE__odd_source_register: ORE with the odd source selector `2 src + 1` (30_encoding.md R119). -/
def execOreOddSrc (_src : BitVec 3) (_dst : Nibble) (_s : State) : Host.Outcome State Fault Refusal :=
  .fault .reservedEncoding

/-- ORE__odd_destination_register: ORE with the odd destination selector `2 dst + 1` (30_encoding.md R119). -/
def execOreOddDst (_src : WReg) (_dst : BitVec 3) (_s : State) : Host.Outcome State Fault Refusal :=
  .fault .reservedEncoding

/-- XFR__odd_source_register: XFR with the odd source selector `2 src + 1` (30_encoding.md R119). -/
def execXfrOddSrc (_src : BitVec 3) (_dst : Nibble) (_s : State) : Host.Outcome State Fault Refusal :=
  .fault .reservedEncoding

/-- XFR__odd_destination_register: XFR with the odd destination selector `2 dst + 1` (30_encoding.md R119). -/
def execXfrOddDst (_src : WReg) (_dst : BitVec 3) (_s : State) : Host.Outcome State Fault Refusal :=
  .fault .reservedEncoding

/-- LDX__indexed__mm___3: LDX in mode 5 with mode byte `hi` in bits 7:2 and mm = 3 (45_load_store.md R316). -/
def execLdxMm3 (_hi : BitVec 6) (_s : State) : Host.Outcome State Fault Refusal :=
  .fault .invalidIndexedSubmode

/-- LDX__indexed__odd_index_register: LDX in mode 5 with the odd index selector `2r + 1` (30_encoding.md R119). -/
def execLdxOddIndex (_r : BitVec 3) (_d : Bool) (_ind : Bool) (_st : IdxStep) (_s : State) : Host.Outcome State Fault Refusal :=
  .fault .reservedEncoding

/-- invalid__LDX_mode_6: LDX with mode 6 (45_load_store.md R317). -/
def execLdxMode6 (_s : State) : Host.Outcome State Fault Refusal :=
  .fault .invalidAddressingMode

/-- invalid__LDX_mode_7: LDX with mode 7 (45_load_store.md R317). -/
def execLdxMode7 (_s : State) : Host.Outcome State Fault Refusal :=
  .fault .invalidAddressingMode

/-- STX__indexed__mm___3: STX in mode 5 with mode byte `hi` in bits 7:2 and mm = 3 (45_load_store.md R316). -/
def execStxMm3 (_hi : BitVec 6) (_s : State) : Host.Outcome State Fault Refusal :=
  .fault .invalidIndexedSubmode

/-- STX__indexed__odd_index_register: STX in mode 5 with the odd index selector `2r + 1` (30_encoding.md R119). -/
def execStxOddIndex (_r : BitVec 3) (_d : Bool) (_ind : Bool) (_st : IdxStep) (_s : State) : Host.Outcome State Fault Refusal :=
  .fault .reservedEncoding

/-- invalid__STX_mode_6: STX with mode 6 (45_load_store.md R317). -/
def execStxMode6 (_s : State) : Host.Outcome State Fault Refusal :=
  .fault .invalidAddressingMode

/-- invalid__STX_mode_7: STX with mode 7 (45_load_store.md R317). -/
def execStxMode7 (_s : State) : Host.Outcome State Fault Refusal :=
  .fault .invalidAddressingMode

/-- LDAB__indexed__mm___3: LDAB in mode 5 with mode byte `hi` in bits 7:2 and mm = 3 (45_load_store.md R316). -/
def execLdabMm3 (_hi : BitVec 6) (_s : State) : Host.Outcome State Fault Refusal :=
  .fault .invalidIndexedSubmode

/-- LDAB__indexed__odd_index_register: LDAB in mode 5 with the odd index selector `2r + 1` (30_encoding.md R119). -/
def execLdabOddIndex (_r : BitVec 3) (_d : Bool) (_ind : Bool) (_st : IdxStep) (_s : State) : Host.Outcome State Fault Refusal :=
  .fault .reservedEncoding

/-- invalid__LDAB_mode_6: LDAB with mode 6 (45_load_store.md R317). -/
def execLdabMode6 (_s : State) : Host.Outcome State Fault Refusal :=
  .fault .invalidAddressingMode

/-- invalid__LDAB_mode_7: LDAB with mode 7 (45_load_store.md R317). -/
def execLdabMode7 (_s : State) : Host.Outcome State Fault Refusal :=
  .fault .invalidAddressingMode

/-- LDA__indexed__mm___3: LDA in mode 5 with mode byte `hi` in bits 7:2 and mm = 3 (45_load_store.md R316). -/
def execLdaMm3 (_hi : BitVec 6) (_s : State) : Host.Outcome State Fault Refusal :=
  .fault .invalidIndexedSubmode

/-- LDA__indexed__odd_index_register: LDA in mode 5 with the odd index selector `2r + 1` (30_encoding.md R119). -/
def execLdaOddIndex (_r : BitVec 3) (_d : Bool) (_ind : Bool) (_st : IdxStep) (_s : State) : Host.Outcome State Fault Refusal :=
  .fault .reservedEncoding

/-- invalid__LDA_mode_6: LDA with mode 6 (45_load_store.md R317). -/
def execLdaMode6 (_s : State) : Host.Outcome State Fault Refusal :=
  .fault .invalidAddressingMode

/-- invalid__LDA_mode_7: LDA with mode 7 (45_load_store.md R317). -/
def execLdaMode7 (_s : State) : Host.Outcome State Fault Refusal :=
  .fault .invalidAddressingMode

/-- STAB__indexed__mm___3: STAB in mode 5 with mode byte `hi` in bits 7:2 and mm = 3 (45_load_store.md R316). -/
def execStabMm3 (_hi : BitVec 6) (_s : State) : Host.Outcome State Fault Refusal :=
  .fault .invalidIndexedSubmode

/-- STAB__indexed__odd_index_register: STAB in mode 5 with the odd index selector `2r + 1` (30_encoding.md R119). -/
def execStabOddIndex (_r : BitVec 3) (_d : Bool) (_ind : Bool) (_st : IdxStep) (_s : State) : Host.Outcome State Fault Refusal :=
  .fault .reservedEncoding

/-- invalid__STAB_mode_6: STAB with mode 6 (45_load_store.md R317). -/
def execStabMode6 (_s : State) : Host.Outcome State Fault Refusal :=
  .fault .invalidAddressingMode

/-- invalid__STAB_mode_7: STAB with mode 7 (45_load_store.md R317). -/
def execStabMode7 (_s : State) : Host.Outcome State Fault Refusal :=
  .fault .invalidAddressingMode

/-- STA__indexed__mm___3: STA in mode 5 with mode byte `hi` in bits 7:2 and mm = 3 (45_load_store.md R316). -/
def execStaMm3 (_hi : BitVec 6) (_s : State) : Host.Outcome State Fault Refusal :=
  .fault .invalidIndexedSubmode

/-- STA__indexed__odd_index_register: STA in mode 5 with the odd index selector `2r + 1` (30_encoding.md R119). -/
def execStaOddIndex (_r : BitVec 3) (_d : Bool) (_ind : Bool) (_st : IdxStep) (_s : State) : Host.Outcome State Fault Refusal :=
  .fault .reservedEncoding

/-- invalid__STA_mode_6: STA with mode 6 (45_load_store.md R317). -/
def execStaMode6 (_s : State) : Host.Outcome State Fault Refusal :=
  .fault .invalidAddressingMode

/-- invalid__STA_mode_7: STA with mode 7 (45_load_store.md R317). -/
def execStaMode7 (_s : State) : Host.Outcome State Fault Refusal :=
  .fault .invalidAddressingMode

/-- LDBB__indexed__mm___3: LDBB in mode 5 with mode byte `hi` in bits 7:2 and mm = 3 (45_load_store.md R316). -/
def execLdbbMm3 (_hi : BitVec 6) (_s : State) : Host.Outcome State Fault Refusal :=
  .fault .invalidIndexedSubmode

/-- LDBB__indexed__odd_index_register: LDBB in mode 5 with the odd index selector `2r + 1` (30_encoding.md R119). -/
def execLdbbOddIndex (_r : BitVec 3) (_d : Bool) (_ind : Bool) (_st : IdxStep) (_s : State) : Host.Outcome State Fault Refusal :=
  .fault .reservedEncoding

/-- invalid__LDBB_mode_6: LDBB with mode 6 (45_load_store.md R317). -/
def execLdbbMode6 (_s : State) : Host.Outcome State Fault Refusal :=
  .fault .invalidAddressingMode

/-- invalid__LDBB_mode_7: LDBB with mode 7 (45_load_store.md R317). -/
def execLdbbMode7 (_s : State) : Host.Outcome State Fault Refusal :=
  .fault .invalidAddressingMode

/-- LDB__indexed__mm___3: LDB in mode 5 with mode byte `hi` in bits 7:2 and mm = 3 (45_load_store.md R316). -/
def execLdbMm3 (_hi : BitVec 6) (_s : State) : Host.Outcome State Fault Refusal :=
  .fault .invalidIndexedSubmode

/-- LDB__indexed__odd_index_register: LDB in mode 5 with the odd index selector `2r + 1` (30_encoding.md R119). -/
def execLdbOddIndex (_r : BitVec 3) (_d : Bool) (_ind : Bool) (_st : IdxStep) (_s : State) : Host.Outcome State Fault Refusal :=
  .fault .reservedEncoding

/-- invalid__LDB_mode_6: LDB with mode 6 (45_load_store.md R317). -/
def execLdbMode6 (_s : State) : Host.Outcome State Fault Refusal :=
  .fault .invalidAddressingMode

/-- invalid__LDB_mode_7: LDB with mode 7 (45_load_store.md R317). -/
def execLdbMode7 (_s : State) : Host.Outcome State Fault Refusal :=
  .fault .invalidAddressingMode

/-- STBB__indexed__mm___3: STBB in mode 5 with mode byte `hi` in bits 7:2 and mm = 3 (45_load_store.md R316). -/
def execStbbMm3 (_hi : BitVec 6) (_s : State) : Host.Outcome State Fault Refusal :=
  .fault .invalidIndexedSubmode

/-- STBB__indexed__odd_index_register: STBB in mode 5 with the odd index selector `2r + 1` (30_encoding.md R119). -/
def execStbbOddIndex (_r : BitVec 3) (_d : Bool) (_ind : Bool) (_st : IdxStep) (_s : State) : Host.Outcome State Fault Refusal :=
  .fault .reservedEncoding

/-- invalid__STBB_mode_6: STBB with mode 6 (45_load_store.md R317). -/
def execStbbMode6 (_s : State) : Host.Outcome State Fault Refusal :=
  .fault .invalidAddressingMode

/-- invalid__STBB_mode_7: STBB with mode 7 (45_load_store.md R317). -/
def execStbbMode7 (_s : State) : Host.Outcome State Fault Refusal :=
  .fault .invalidAddressingMode

/-- STB__indexed__mm___3: STB in mode 5 with mode byte `hi` in bits 7:2 and mm = 3 (45_load_store.md R316). -/
def execStbMm3 (_hi : BitVec 6) (_s : State) : Host.Outcome State Fault Refusal :=
  .fault .invalidIndexedSubmode

/-- STB__indexed__odd_index_register: STB in mode 5 with the odd index selector `2r + 1` (30_encoding.md R119). -/
def execStbOddIndex (_r : BitVec 3) (_d : Bool) (_ind : Bool) (_st : IdxStep) (_s : State) : Host.Outcome State Fault Refusal :=
  .fault .reservedEncoding

/-- invalid__STB_mode_6: STB with mode 6 (45_load_store.md R317). -/
def execStbMode6 (_s : State) : Host.Outcome State Fault Refusal :=
  .fault .invalidAddressingMode

/-- invalid__STB_mode_7: STB with mode 7 (45_load_store.md R317). -/
def execStbMode7 (_s : State) : Host.Outcome State Fault Refusal :=
  .fault .invalidAddressingMode

/-- JMP__indexed__mm___3: JMP in mode 5 with mode byte `hi` in bits 7:2 and mm = 3 (45_load_store.md R316). -/
def execJmpMm3 (_hi : BitVec 6) (_s : State) : Host.Outcome State Fault Refusal :=
  .fault .invalidIndexedSubmode

/-- JMP__indexed__odd_index_register: JMP in mode 5 with the odd index selector `2r + 1` (30_encoding.md R119). -/
def execJmpOddIndex (_r : BitVec 3) (_d : Bool) (_ind : Bool) (_st : IdxStep) (_s : State) : Host.Outcome State Fault Refusal :=
  .fault .reservedEncoding

/-- invalid__JMP_submode_0__literal: opcode 0x70 (46_jump_call_stack.md R365). -/
def execJmpLiteral (_s : State) : Host.Outcome State Fault Refusal :=
  .fault .invalidAddressingMode

/-- invalid__submode_7: opcode 0x77 (46_jump_call_stack.md R365). -/
def execJumpSub7 (_s : State) : Host.Outcome State Fault Refusal :=
  .fault .invalidAddressingMode

/-- JSR__indexed__mm___3: JSR in mode 5 with mode byte `hi` in bits 7:2 and mm = 3 (45_load_store.md R316). -/
def execJsrMm3 (_hi : BitVec 6) (_s : State) : Host.Outcome State Fault Refusal :=
  .fault .invalidIndexedSubmode

/-- JSR__indexed__odd_index_register: JSR in mode 5 with the odd index selector `2r + 1` (30_encoding.md R119). -/
def execJsrOddIndex (_r : BitVec 3) (_d : Bool) (_ind : Bool) (_st : IdxStep) (_s : State) : Host.Outcome State Fault Refusal :=
  .fault .reservedEncoding

/-- invalid__JSR_submode_0__literal: opcode 0x78 (46_jump_call_stack.md R365). -/
def execJsrLiteral (_s : State) : Host.Outcome State Fault Refusal :=
  .fault .invalidAddressingMode

end Sys2Proof.Machine
end

