-- ==== Sys2Proof/Machine/System.lean ====
section
/-! DEFINITION. The page-table, DMA-register and block instructions (43_mmu_dma_block.md). PC already points past the instruction's fetched bytes. -/

namespace Sys2Proof.Machine

/-- LDMMU: load a page-table bank from memory (43_mmu_dma_block.md R241). -/
def execLdmmu (bank : BitVec 3) (addr : Word) (s : State) : Host.Outcome State Fault Refusal :=
  .next (loadTable bank 32 0 addr s)

/-- STMMU: store a page-table bank to memory (43_mmu_dma_block.md R242). -/
def execStmmu (bank : BitVec 3) (addr : Word) (s : State) : Host.Outcome State Fault Refusal :=
  .next (storeTable bank 32 0 addr s)

/-- LDDMA: load DMA.addr from a word register (43_mmu_dma_block.md R244). -/
def execLddma (r : WReg) (s : State) : Host.Outcome State Fault Refusal :=
  .next { s with dma := { s.dma with addr := getXw s r } }

/-- STDMA: store DMA.addr to a word register (43_mmu_dma_block.md R245). -/
def execStdma (r : WReg) (s : State) : Host.Outcome State Fault Refusal :=
  .next (setXw s r s.dma.addr)

/-- LDDMC: load DMA.count from a word register (43_mmu_dma_block.md R246). -/
def execLddmc (r : WReg) (s : State) : Host.Outcome State Fault Refusal :=
  .next { s with dma := { s.dma with count := getXw s r } }

/-- STDMC: store DMA.count to a word register (43_mmu_dma_block.md R247). -/
def execStdmc (r : WReg) (s : State) : Host.Outcome State Fault Refusal :=
  .next (setXw s r s.dma.count)

/-- SDMAM: set DMA.mode (43_mmu_dma_block.md R248). -/
def execSdmam (m : Nibble) (s : State) : Host.Outcome State Fault Refusal :=
  .next { s with dma := { s.dma with mode := m } }

/-- EDMA: enable DMA (43_mmu_dma_block.md R249). -/
def execEdma (s : State) : Host.Outcome State Fault Refusal :=
  .next { s with dma := { s.dma with enabled := true } }

/-- DDMA: disable DMA (43_mmu_dma_block.md R250). -/
def execDdma (s : State) : Host.Outcome State Fault Refusal :=
  .next { s with dma := { s.dma with enabled := false } }

/-- BCPY: block copy of `n + 1` bytes (43_mmu_dma_block.md R251). -/
def execBcpy (n : Byte) (src : Word) (dst : Word) (s : State) : Host.Outcome State Fault Refusal :=
  .next (blockCopy (n.toNat + 1) src dst s)

/-- BCMP: block compare of `n + 1` byte pairs (43_mmu_dma_block.md R252). -/
def execBcmp (n : Byte) (src : Word) (dst : Word) (s : State) : Host.Outcome State Fault Refusal :=
  let p := blockCompare (n.toNat + 1) src dst true s
  .next { p.2 with flags := setV p.2.flags p.1 }

end Sys2Proof.Machine
end

