-- ==== Sys2Proof/Machine/Unary.lean ====
section
/-! DEFINITION. The unary ALU instructions (42_unary_alu.md). PC already points past the instruction's fetched bytes. -/

namespace Sys2Proof.Machine

/-- INRB: increment byte register `r`, count `n + 1` (42_unary_alu.md R200). -/
def execInrb (r : Nibble) (n : Nibble) (s : State) : Host.Outcome State Fault Refusal :=
  .next (unaryByte incLaw r n s)

/-- DCRB: decrement byte register `r`, count `n + 1` (42_unary_alu.md R201). -/
def execDcrb (r : Nibble) (n : Nibble) (s : State) : Host.Outcome State Fault Refusal :=
  .next (unaryByte decLaw r n s)

/-- CLRB: clear byte register `r`, count `n + 1` (42_unary_alu.md R202). -/
def execClrb (r : Nibble) (n : Nibble) (s : State) : Host.Outcome State Fault Refusal :=
  .next (unaryByte clrLaw r n s)

/-- IVRB: invert byte register `r`, count `n + 1` (42_unary_alu.md R203). -/
def execIvrb (r : Nibble) (n : Nibble) (s : State) : Host.Outcome State Fault Refusal :=
  .next (unaryByte invLaw r n s)

/-- SRRB: shift right byte register `r`, count `n + 1` (42_unary_alu.md R204). -/
def execSrrb (r : Nibble) (n : Nibble) (s : State) : Host.Outcome State Fault Refusal :=
  .next (unaryByte shrLaw r n s)

/-- SLRB: shift left byte register `r`, count `n + 1` (42_unary_alu.md R205). -/
def execSlrb (r : Nibble) (n : Nibble) (s : State) : Host.Outcome State Fault Refusal :=
  .next (unaryByte shlLaw r n s)

/-- RRRB: rotate right through LINK byte register `r`, count `n + 1` (42_unary_alu.md R206). -/
def execRrrb (r : Nibble) (n : Nibble) (s : State) : Host.Outcome State Fault Refusal :=
  .next (unaryByte rorLaw r n s)

/-- RLRB: rotate left through LINK byte register `r`, count `n + 1` (42_unary_alu.md R207). -/
def execRlrb (r : Nibble) (n : Nibble) (s : State) : Host.Outcome State Fault Refusal :=
  .next (unaryByte rolLaw r n s)

/-- INAB: increment AL (42_unary_alu.md R208). -/
def execInab (s : State) : Host.Outcome State Fault Refusal :=
  .next (unaryByte incLaw WReg.A.lo 0 s)

/-- DCAB: decrement AL (42_unary_alu.md R209). -/
def execDcab (s : State) : Host.Outcome State Fault Refusal :=
  .next (unaryByte decLaw WReg.A.lo 0 s)

/-- CLAB: clear AL (42_unary_alu.md R210). -/
def execClab (s : State) : Host.Outcome State Fault Refusal :=
  .next (unaryByte clrLaw WReg.A.lo 0 s)

/-- IVAB: invert AL (42_unary_alu.md R211). -/
def execIvab (s : State) : Host.Outcome State Fault Refusal :=
  .next (unaryByte invLaw WReg.A.lo 0 s)

/-- SRAB: shift right AL (42_unary_alu.md R212). -/
def execSrab (s : State) : Host.Outcome State Fault Refusal :=
  .next (unaryByte shrLaw WReg.A.lo 0 s)

/-- SLAB: shift left AL (42_unary_alu.md R213). -/
def execSlab (s : State) : Host.Outcome State Fault Refusal :=
  .next (unaryByte shlLaw WReg.A.lo 0 s)

/-- INR: increment word register `r`, count `n + 1` (42_unary_alu.md R216). -/
def execInr (r : WReg) (n : Nibble) (s : State) : Host.Outcome State Fault Refusal :=
  .next (unaryWord incLaw r n s)

/-- DCR: decrement word register `r`, count `n + 1` (42_unary_alu.md R217). -/
def execDcr (r : WReg) (n : Nibble) (s : State) : Host.Outcome State Fault Refusal :=
  .next (unaryWord decLaw r n s)

/-- CLR: clear word register `r`, count `n + 1` (42_unary_alu.md R218). -/
def execClr (r : WReg) (n : Nibble) (s : State) : Host.Outcome State Fault Refusal :=
  .next (unaryWord clrLaw r n s)

/-- IVR: invert word register `r`, count `n + 1` (42_unary_alu.md R219). -/
def execIvr (r : WReg) (n : Nibble) (s : State) : Host.Outcome State Fault Refusal :=
  .next (unaryWord invLaw r n s)

/-- SRR: shift right word register `r`, count `n + 1` (42_unary_alu.md R220). -/
def execSrr (r : WReg) (n : Nibble) (s : State) : Host.Outcome State Fault Refusal :=
  .next (unaryWord shrLaw r n s)

/-- SLR: shift left word register `r`, count `n + 1` (42_unary_alu.md R221). -/
def execSlr (r : WReg) (n : Nibble) (s : State) : Host.Outcome State Fault Refusal :=
  .next (unaryWord shlLaw r n s)

/-- RRR: rotate right through LINK word register `r`, count `n + 1` (42_unary_alu.md R222). -/
def execRrr (r : WReg) (n : Nibble) (s : State) : Host.Outcome State Fault Refusal :=
  .next (unaryWord rorLaw r n s)

/-- RLR: rotate left through LINK word register `r`, count `n + 1` (42_unary_alu.md R223). -/
def execRlr (r : WReg) (n : Nibble) (s : State) : Host.Outcome State Fault Refusal :=
  .next (unaryWord rolLaw r n s)

/-- INA: increment A (42_unary_alu.md R224). -/
def execIna (s : State) : Host.Outcome State Fault Refusal :=
  .next (unaryWord incLaw .A 0 s)

/-- DCA: decrement A (42_unary_alu.md R225). -/
def execDca (s : State) : Host.Outcome State Fault Refusal :=
  .next (unaryWord decLaw .A 0 s)

/-- CLA: clear A (42_unary_alu.md R226). -/
def execCla (s : State) : Host.Outcome State Fault Refusal :=
  .next (unaryWord clrLaw .A 0 s)

/-- IVA: invert A (42_unary_alu.md R227). -/
def execIva (s : State) : Host.Outcome State Fault Refusal :=
  .next (unaryWord invLaw .A 0 s)

/-- SRA: shift right A (42_unary_alu.md R228). -/
def execSra (s : State) : Host.Outcome State Fault Refusal :=
  .next (unaryWord shrLaw .A 0 s)

/-- SLA: shift left A (42_unary_alu.md R229). -/
def execSla (s : State) : Host.Outcome State Fault Refusal :=
  .next (unaryWord shlLaw .A 0 s)

end Sys2Proof.Machine
end

