-- ==== Sys2Proof/Machine/Dispatch.lean ====
section
/-! DEFINITION. One arm per constructor of Instr, each one direct call of its meaning. -/

namespace Sys2Proof.Machine

def exec (i : Instr) (s : State) : Host.Outcome State Fault Refusal :=
  match i with
  | .hlt => Sys2Proof.Machine.execHlt s
  | .nop => Sys2Proof.Machine.execNop s
  | .sf => Sys2Proof.Machine.execSf s
  | .rf => Sys2Proof.Machine.execRf s
  | .ei => Sys2Proof.Machine.execEi s
  | .di => Sys2Proof.Machine.execDi s
  | .sl => Sys2Proof.Machine.execSl s
  | .rl => Sys2Proof.Machine.execRl s
  | .cl => Sys2Proof.Machine.execCl s
  | .rsr => Sys2Proof.Machine.execRsr s
  | .ri => Sys2Proof.Machine.execRi s
  | .rim => Sys2Proof.Machine.execRim s
  | .cf => Sys2Proof.Machine.execCf s
  | .pcx => Sys2Proof.Machine.execPcx s
  | .dly => Sys2Proof.Machine.execDly s
  | .rsys => Sys2Proof.Machine.execRsys s
  | .bl disp => Sys2Proof.Machine.execBl disp s
  | .bnl disp => Sys2Proof.Machine.execBnl disp s
  | .bf disp => Sys2Proof.Machine.execBf disp s
  | .bnf disp => Sys2Proof.Machine.execBnf disp s
  | .bz disp => Sys2Proof.Machine.execBz disp s
  | .bnz disp => Sys2Proof.Machine.execBnz disp s
  | .bm disp => Sys2Proof.Machine.execBm disp s
  | .bp disp => Sys2Proof.Machine.execBp disp s
  | .bs1 disp => Sys2Proof.Machine.execBs1 disp s
  | .bns1 disp => Sys2Proof.Machine.execBns1 disp s
  | .bs2 disp => Sys2Proof.Machine.execBs2 disp s
  | .bns2 disp => Sys2Proof.Machine.execBns2 disp s
  | .bs3 disp => Sys2Proof.Machine.execBs3 disp s
  | .bns3 disp => Sys2Proof.Machine.execBns3 disp s
  | .bs4 disp => Sys2Proof.Machine.execBs4 disp s
  | .bns4 disp => Sys2Proof.Machine.execBns4 disp s
  | .inrb r n => Sys2Proof.Machine.execInrb r n s
  | .dcrb r n => Sys2Proof.Machine.execDcrb r n s
  | .clrb r n => Sys2Proof.Machine.execClrb r n s
  | .ivrb r n => Sys2Proof.Machine.execIvrb r n s
  | .srrb r n => Sys2Proof.Machine.execSrrb r n s
  | .slrb r n => Sys2Proof.Machine.execSlrb r n s
  | .rrrb r n => Sys2Proof.Machine.execRrrb r n s
  | .rlrb r n => Sys2Proof.Machine.execRlrb r n s
  | .inab => Sys2Proof.Machine.execInab s
  | .dcab => Sys2Proof.Machine.execDcab s
  | .clab => Sys2Proof.Machine.execClab s
  | .ivab => Sys2Proof.Machine.execIvab s
  | .srab => Sys2Proof.Machine.execSrab s
  | .slab => Sys2Proof.Machine.execSlab s
  | .inr r n => Sys2Proof.Machine.execInr r n s
  | .inrOdd r n => Sys2Proof.Machine.execInrOdd r n s
  | .dcr r n => Sys2Proof.Machine.execDcr r n s
  | .dcrOdd r n => Sys2Proof.Machine.execDcrOdd r n s
  | .clr r n => Sys2Proof.Machine.execClr r n s
  | .clrOdd r n => Sys2Proof.Machine.execClrOdd r n s
  | .ivr r n => Sys2Proof.Machine.execIvr r n s
  | .ivrOdd r n => Sys2Proof.Machine.execIvrOdd r n s
  | .srr r n => Sys2Proof.Machine.execSrr r n s
  | .srrOdd r n => Sys2Proof.Machine.execSrrOdd r n s
  | .slr r n => Sys2Proof.Machine.execSlr r n s
  | .slrOdd r n => Sys2Proof.Machine.execSlrOdd r n s
  | .rrr r n => Sys2Proof.Machine.execRrr r n s
  | .rrrOdd r n => Sys2Proof.Machine.execRrrOdd r n s
  | .rlr r n => Sys2Proof.Machine.execRlr r n s
  | .rlrOdd r n => Sys2Proof.Machine.execRlrOdd r n s
  | .ina => Sys2Proof.Machine.execIna s
  | .dca => Sys2Proof.Machine.execDca s
  | .cla => Sys2Proof.Machine.execCla s
  | .iva => Sys2Proof.Machine.execIva s
  | .sra => Sys2Proof.Machine.execSra s
  | .sla => Sys2Proof.Machine.execSla s
  | .ldmmu bank addr => Sys2Proof.Machine.execLdmmu bank addr s
  | .ldmmuBadBank b => Sys2Proof.Machine.execLdmmuBadBank b s
  | .stmmu bank addr => Sys2Proof.Machine.execStmmu bank addr s
  | .stmmuBadBank b => Sys2Proof.Machine.execStmmuBadBank b s
  | .reserved2E code low => Sys2Proof.Machine.execReserved2E code low s
  | .lddma r => Sys2Proof.Machine.execLddma r s
  | .lddmaOdd r => Sys2Proof.Machine.execLddmaOdd r s
  | .stdma r => Sys2Proof.Machine.execStdma r s
  | .stdmaOdd r => Sys2Proof.Machine.execStdmaOdd r s
  | .lddmc r => Sys2Proof.Machine.execLddmc r s
  | .lddmcOdd r => Sys2Proof.Machine.execLddmcOdd r s
  | .stdmc r => Sys2Proof.Machine.execStdmc r s
  | .stdmcOdd r => Sys2Proof.Machine.execStdmcOdd r s
  | .sdmam m => Sys2Proof.Machine.execSdmam m s
  | .edma => Sys2Proof.Machine.execEdma s
  | .edmaPad pad => Sys2Proof.Machine.execEdmaPad pad s
  | .ddma => Sys2Proof.Machine.execDdma s
  | .ddmaPad pad => Sys2Proof.Machine.execDdmaPad pad s
  | .reserved2FSub5 r => Sys2Proof.Machine.execReserved2FSub5 r s
  | .reserved2FSub8 r code => Sys2Proof.Machine.execReserved2FSub8 r code s
  | .bcpy n src dst => Sys2Proof.Machine.execBcpy n src dst s
  | .bcmp n src dst => Sys2Proof.Machine.execBcmp n src dst s
  | .addb src dst => Sys2Proof.Machine.execAddb src dst s
  | .subb src dst => Sys2Proof.Machine.execSubb src dst s
  | .andb src dst => Sys2Proof.Machine.execAndb src dst s
  | .orib src dst => Sys2Proof.Machine.execOrib src dst s
  | .oreb src dst => Sys2Proof.Machine.execOreb src dst s
  | .xfrb src dst => Sys2Proof.Machine.execXfrb src dst s
  | .reserved46 => Sys2Proof.Machine.execReserved46 s
  | .reserved47 => Sys2Proof.Machine.execReserved47 s
  | .reserved56 => Sys2Proof.Machine.execReserved56 s
  | .reserved57 => Sys2Proof.Machine.execReserved57 s
  | .aabb => Sys2Proof.Machine.execAabb s
  | .sabb => Sys2Proof.Machine.execSabb s
  | .nabb => Sys2Proof.Machine.execNabb s
  | .xaxb => Sys2Proof.Machine.execXaxb s
  | .xayb => Sys2Proof.Machine.execXayb s
  | .xabb => Sys2Proof.Machine.execXabb s
  | .xazb => Sys2Proof.Machine.execXazb s
  | .xasb => Sys2Proof.Machine.execXasb s
  | .add src dst => Sys2Proof.Machine.execAdd src dst s
  | .addOddSrc src dst => Sys2Proof.Machine.execAddOddSrc src dst s
  | .addOddDst src dst => Sys2Proof.Machine.execAddOddDst src dst s
  | .sub src dst => Sys2Proof.Machine.execSub src dst s
  | .subOddSrc src dst => Sys2Proof.Machine.execSubOddSrc src dst s
  | .subOddDst src dst => Sys2Proof.Machine.execSubOddDst src dst s
  | .and src dst => Sys2Proof.Machine.execAnd src dst s
  | .andOddSrc src dst => Sys2Proof.Machine.execAndOddSrc src dst s
  | .andOddDst src dst => Sys2Proof.Machine.execAndOddDst src dst s
  | .ori src dst => Sys2Proof.Machine.execOri src dst s
  | .oriOddSrc src dst => Sys2Proof.Machine.execOriOddSrc src dst s
  | .oriOddDst src dst => Sys2Proof.Machine.execOriOddDst src dst s
  | .ore src dst => Sys2Proof.Machine.execOre src dst s
  | .oreOddSrc src dst => Sys2Proof.Machine.execOreOddSrc src dst s
  | .oreOddDst src dst => Sys2Proof.Machine.execOreOddDst src dst s
  | .xfr src dst => Sys2Proof.Machine.execXfr src dst s
  | .xfrOddSrc src dst => Sys2Proof.Machine.execXfrOddSrc src dst s
  | .xfrOddDst src dst => Sys2Proof.Machine.execXfrOddDst src dst s
  | .aab => Sys2Proof.Machine.execAab s
  | .sab => Sys2Proof.Machine.execSab s
  | .nab => Sys2Proof.Machine.execNab s
  | .xax => Sys2Proof.Machine.execXax s
  | .xay => Sys2Proof.Machine.execXay s
  | .xab => Sys2Proof.Machine.execXab s
  | .xaz => Sys2Proof.Machine.execXaz s
  | .xas => Sys2Proof.Machine.execXas s
  | .ldx m => Sys2Proof.Machine.execLdx m s
  | .ldxMm3 hi => Sys2Proof.Machine.execLdxMm3 hi s
  | .ldxOddIndex r d ind st => Sys2Proof.Machine.execLdxOddIndex r d ind st s
  | .ldxMode6 => Sys2Proof.Machine.execLdxMode6 s
  | .ldxMode7 => Sys2Proof.Machine.execLdxMode7 s
  | .stx m => Sys2Proof.Machine.execStx m s
  | .stxMm3 hi => Sys2Proof.Machine.execStxMm3 hi s
  | .stxOddIndex r d ind st => Sys2Proof.Machine.execStxOddIndex r d ind st s
  | .stxMode6 => Sys2Proof.Machine.execStxMode6 s
  | .stxMode7 => Sys2Proof.Machine.execStxMode7 s
  | .ldab m => Sys2Proof.Machine.execLdab m s
  | .ldabMm3 hi => Sys2Proof.Machine.execLdabMm3 hi s
  | .ldabOddIndex r d ind st => Sys2Proof.Machine.execLdabOddIndex r d ind st s
  | .ldabMode6 => Sys2Proof.Machine.execLdabMode6 s
  | .ldabMode7 => Sys2Proof.Machine.execLdabMode7 s
  | .lda m => Sys2Proof.Machine.execLda m s
  | .ldaMm3 hi => Sys2Proof.Machine.execLdaMm3 hi s
  | .ldaOddIndex r d ind st => Sys2Proof.Machine.execLdaOddIndex r d ind st s
  | .ldaMode6 => Sys2Proof.Machine.execLdaMode6 s
  | .ldaMode7 => Sys2Proof.Machine.execLdaMode7 s
  | .stab m => Sys2Proof.Machine.execStab m s
  | .stabMm3 hi => Sys2Proof.Machine.execStabMm3 hi s
  | .stabOddIndex r d ind st => Sys2Proof.Machine.execStabOddIndex r d ind st s
  | .stabMode6 => Sys2Proof.Machine.execStabMode6 s
  | .stabMode7 => Sys2Proof.Machine.execStabMode7 s
  | .sta m => Sys2Proof.Machine.execSta m s
  | .staMm3 hi => Sys2Proof.Machine.execStaMm3 hi s
  | .staOddIndex r d ind st => Sys2Proof.Machine.execStaOddIndex r d ind st s
  | .staMode6 => Sys2Proof.Machine.execStaMode6 s
  | .staMode7 => Sys2Proof.Machine.execStaMode7 s
  | .ldbb m => Sys2Proof.Machine.execLdbb m s
  | .ldbbMm3 hi => Sys2Proof.Machine.execLdbbMm3 hi s
  | .ldbbOddIndex r d ind st => Sys2Proof.Machine.execLdbbOddIndex r d ind st s
  | .ldbbMode6 => Sys2Proof.Machine.execLdbbMode6 s
  | .ldbbMode7 => Sys2Proof.Machine.execLdbbMode7 s
  | .ldb m => Sys2Proof.Machine.execLdb m s
  | .ldbMm3 hi => Sys2Proof.Machine.execLdbMm3 hi s
  | .ldbOddIndex r d ind st => Sys2Proof.Machine.execLdbOddIndex r d ind st s
  | .ldbMode6 => Sys2Proof.Machine.execLdbMode6 s
  | .ldbMode7 => Sys2Proof.Machine.execLdbMode7 s
  | .stbb m => Sys2Proof.Machine.execStbb m s
  | .stbbMm3 hi => Sys2Proof.Machine.execStbbMm3 hi s
  | .stbbOddIndex r d ind st => Sys2Proof.Machine.execStbbOddIndex r d ind st s
  | .stbbMode6 => Sys2Proof.Machine.execStbbMode6 s
  | .stbbMode7 => Sys2Proof.Machine.execStbbMode7 s
  | .stb m => Sys2Proof.Machine.execStb m s
  | .stbMm3 hi => Sys2Proof.Machine.execStbMm3 hi s
  | .stbOddIndex r d ind st => Sys2Proof.Machine.execStbOddIndex r d ind st s
  | .stbMode6 => Sys2Proof.Machine.execStbMode6 s
  | .stbMode7 => Sys2Proof.Machine.execStbMode7 s
  | .jmp m => Sys2Proof.Machine.execJmp m s
  | .jmpMm3 hi => Sys2Proof.Machine.execJmpMm3 hi s
  | .jmpOddIndex r d ind st => Sys2Proof.Machine.execJmpOddIndex r d ind st s
  | .jmpLiteral => Sys2Proof.Machine.execJmpLiteral s
  | .jsys arg => Sys2Proof.Machine.execJsys arg s
  | .jumpSub7 => Sys2Proof.Machine.execJumpSub7 s
  | .jsr m => Sys2Proof.Machine.execJsr m s
  | .jsrMm3 hi => Sys2Proof.Machine.execJsrMm3 hi s
  | .jsrOddIndex r d ind st => Sys2Proof.Machine.execJsrOddIndex r d ind st s
  | .jsrLiteral => Sys2Proof.Machine.execJsrLiteral s
  | .push r n => Sys2Proof.Machine.execPush r n s
  | .pop r n => Sys2Proof.Machine.execPop r n s

end Sys2Proof.Machine
end

