-- ==== Sys2Proof/Machine/Fetch.lean ====
section
/-! DEFINITION. Fetching an instruction (40_control.md R156, 10_state.md R26, R36) and placing one where the next step
fetches it. -/

namespace Sys2Proof.Machine

/-- The decoder's tree run on `fetch8()`: each byte is fetched when the tree asks for it (30_encoding.md R120). -/
def fetchDec : Dec → State → Instr × State
  | .done i, s => (i, s)
  | .byte k, s => fetchDec (k (fetch8 s).1) (fetch8 s).2

/-- The opcode byte, the count, then the bytes the opcode asks for (40_control.md R156). -/
def fetchInstr (s : State) : Instr × State :=
  let op := fetch8 s
  fetchDec (decodeOp op.1) { op.2 with opcount := countOpcode op.2.cfg op.2.opcount }

/-- Byte `v` made to be what a fetch at logical address `a` reads: the register file, or a RAM or ROM region's contents
as the host loads them; where no such region is, the host registers a RAM region of one byte there, ahead of the others
(assumption 5). -/
def placeByte (s : State) (a : Word) (v : Byte) : State :=
  match resolve s a with
  | .sram i => setSramByte s i v
  | .phys p =>
    match regionAt s.regions p with
    | some .ram | some .rom => { s with mem := Memory.write s.mem p.toNat v }
    | some .device | none =>
      { s with
        regions := { start := p.toNat, length := 1, kind := .ram } :: s.regions
        mem := Memory.write s.mem p.toNat v }

/-- Bytes placed at rising logical addresses from `a`. -/
def placeBytes (s : State) (a : Word) : List Byte → State
  | [] => s
  | v :: rest => placeBytes (placeByte s a v) (a + 1) rest

end Sys2Proof.Machine
end

