-- ==== Sys2Proof/Machine/Step.lean ====
section
/-! DEFINITION. `step()` (40_control.md R156), and an instruction placed where the next step fetches it. -/

namespace Sys2Proof.Machine

/-- `step()`: a halted core does nothing at all; a running one fetches an instruction and runs it (40_control.md R156). -/
def step (s : State) : Host.Outcome State Fault Refusal :=
  if s.halted then .next s
  else exec (fetchInstr s).1 (fetchInstr s).2

/-- `s`, running, with the instruction's six bytes placed from PC on (assumption 5). -/
def State.withFetchWord (s : State) (nbits w : Nat) : State :=
  placeBytes { s with halted := false } s.pc (tableBytes nbits w)

end Sys2Proof.Machine
end

