-- ==== Sys2Proof/Machine/HostActions.lean ====
section
/-! DEFINITION. What the host does between steps (00_scope.md R4, assumption 8): reset, interrupts, the sense switches,
regions and their contents, device events; and what a step reports to it (00_scope.md R5). -/

namespace Sys2Proof.Machine

/-- What is the host's and not the core's: the parameters, SW, REGIONS, the region contents and the devices' history
(00_scope.md R3, R4, 20_memory.md R60). It is what a Fatal leaves defined (60_exceptions.md R401, assumption 9). -/
structure HostSide where
  cfg : Config
  sw : Nibble
  regions : List Region
  mem : List Host.Cell
  devLog : List BusEvent
  deriving DecidableEq, Repr

/-- The host's side of a state. -/
def hostSide (s : State) : HostSide :=
  { cfg := s.cfg, sw := s.sw, regions := s.regions, mem := s.mem, devLog := s.devLog }

/-- The core just reset beside a host's side, which `reset()` does not touch (70_reset_and_hazards.md R450). -/
def resetFrom (h : HostSide) : State := State.resetWith h.cfg h.sw h.regions h.mem h.devLog

/-- `reset()`: every piece of core state at its reset value; the parameters, SW, REGIONS, the region contents and the
devices are not touched (10_state.md R42, 70_reset_and_hazards.md R450). -/
def hostReset (s : State) : State := resetFrom (hostSide s)

/-- Whether two regions share an address (20_memory.md R61). -/
def Region.overlaps (r q : Region) : Bool :=
  decide (r.start < q.start + q.length) && decide (q.start < r.start + r.length)

/-- Whether a region is a nonempty range of the 19-bit space that meets none of the registered ones (20_memory.md R60,
R61). -/
def registrable (regions : List Region) (r : Region) : Bool :=
  decide (0 < r.length) && decide (r.start + r.length ≤ 2 ^ 19) && regions.all fun q => !Region.overlaps r q

/-- A list of regions in which each meets none of those before it (20_memory.md R61). -/
def regionsOk : List Region → Bool
  | [] => true
  | r :: rest => registrable rest r && regionsOk rest

/-- The host's actions, all between steps (00_scope.md R4, 70_reset_and_hazards.md R468). -/
inductive HostAction where
  /-- `reset()` (70_reset_and_hazards.md R450). -/
  | reset
  /-- `trigger_interrupt(level)`, the level any number, taken modulo 16 (60_exceptions.md R402). -/
  | trigger (level : Nat)
  /-- The sense switches set (10_state.md R37). -/
  | switches (sw : Nibble)
  /-- A region registered, after those before it (20_memory.md R60, R61). -/
  | register (r : Region)
  /-- A byte of a region's contents set by the host: an image loaded, a device writing RAM (20_memory.md R60). -/
  | store (p : PAddr) (v : Byte)
  /-- Anything that happens to the devices: later device reads may answer otherwise (20_memory.md R66). -/
  | deviceEvent (tag : Nat)
  deriving DecidableEq, Repr

/-- What a host action does. Only the registration of an overlapping range is an error, raised to the host
(20_memory.md R61, 60_exceptions.md R401). -/
def hostAct (a : HostAction) (s : State) : Host.Outcome State Fault Refusal :=
  match a with
  | .reset => .next (hostReset s)
  | .trigger level => .next (triggerInterrupt level s)
  | .switches sw => .next { s with sw := sw }
  | .register r =>
    if registrable s.regions r then .next { s with regions := s.regions ++ [r] } else .fault .doubleRegistration
  | .store p v => .next { s with mem := Memory.write s.mem p.toNat v }
  | .deviceEvent tag => .next { s with devLog := .host tag :: s.devLog }

/-- What `step()` reports to the host (00_scope.md R5): Executed with whether the core is still running, or Fatal. -/
inductive Report where
  | executed (running : Bool)
  | fatal (reason : Fault)
  deriving DecidableEq, Repr

/-- The report of a step: `Executed(HALTED = 0)` of the state it leaves, false at once for a halted core
(40_control.md R156). No step is refused. -/
def report (s : State) : Option Report :=
  match step s with
  | .next t => some (.executed (!t.halted))
  | .fault r => some (.fatal r)
  | .refused _ => none

/-- The code of a Fatal reason (60_exceptions.md R401); the host's registration error has none. -/
def Fault.code : Fault → Option Nat
  | .invalidAddressingMode => some 1
  | .invalidIndexedSubmode => some 2
  | .mmuBankOutOfRange => some 3
  | .reservedEncoding => some 4
  | .doubleRegistration => none

/-- A turn of one of the two agents (00_scope.md R4). -/
inductive Turn where
  | step
  | host (a : HostAction)
  deriving DecidableEq, Repr

/-- How the machine stands between turns: in a state, or stopped by a Fatal, after which only the host's side is
defined (60_exceptions.md R401, 93_implementation_defined.md U6). -/
inductive Standing where
  | defined (s : State)
  | afterFatal (reason : Fault) (h : HostSide)
  deriving DecidableEq, Repr

/-- The outcome of a host action as a standing, `keep` saying what is kept of the state it answers. -/
def standingOf (keep : State → Standing) :
    Host.Outcome State Fault Refusal → Host.Outcome Standing Fault Refusal
  | .next t => .next (keep t)
  | .fault r => .fault r
  | .refused r => .refused r

/-- A step of a machine in a state; a Fatal one leaves the host's side, the fetches' device reads among its history
(30_encoding.md R120). -/
def stepTurn (s : State) : Host.Outcome Standing Fault Refusal :=
  match step s with
  | .next t => .next (.defined t)
  | .fault r => .next (.afterFatal r (hostSide (fetchInstr s).2))
  | .refused r => .refused r

/-- A host action after a Fatal: `reset()` is the only one that makes the core defined again, an interrupt has no core
to act on, and the others act on what is the host's (60_exceptions.md R401, 70_reset_and_hazards.md R451). -/
def hostActAfterFatal (a : HostAction) (r : Fault) (h : HostSide) : Host.Outcome Standing Fault Refusal :=
  match a with
  | .reset => .next (.defined (resetFrom h))
  | .trigger _ => .fault r
  | .switches _ | .register _ | .store _ _ | .deviceEvent _ =>
    standingOf (fun t => .afterFatal r (hostSide t)) (hostAct a (resetFrom h))

/-- One turn. A step after a Fatal, before a reset, has no defined outcome: it answers the Fatal again. -/
def takeTurn : Turn → Standing → Host.Outcome Standing Fault Refusal
  | .step, .defined s => stepTurn s
  | .step, .afterFatal r _ => .fault r
  | .host a, .defined s => standingOf .defined (hostAct a s)
  | .host a, .afterFatal r h => hostActAfterFatal a r h

/-- Turns in order, stopping at the first that answers no standing. -/
def runTurns : List Turn → Standing → Host.Outcome Standing Fault Refusal
  | [], m => .next m
  | t :: rest, m =>
    match takeTurn t m with
    | .next m' => runTurns rest m'
    | .fault r => .fault r
    | .refused r => .refused r

end Sys2Proof.Machine
end

