-- ==== Sys2Proof/Safety.lean ====
section
/-! DEFINITION. The terms the statements are written in: what kind of place a logical address is, what an instruction
may change, the invariant every step keeps, and what a safe run is (00_scope.md R5, R6). -/

namespace Sys2Proof

/-- The byte registers an addressing mode writes: both halves of a stepped index register (45_load_store.md R319). -/
def Mode.steppedRegs : Mode → List Nibble
  | .indexed r .postInc _ _ => [r.hi, r.lo]
  | .indexed r .preDec _ _ => [r.hi, r.lo]
  | .indexed _ .plain _ _ => []
  | .literal | .direct _ | .indirect _ | .relative _ | .relIndirect _ | .register _ => []

end Sys2Proof

namespace Sys2Proof.Machine

/-! ### Places -/

/-- The logical address of byte register `i` of the current bank (10_state.md R24). -/
def regAddr (s : State) (i : Nibble) : Word := (regIndex s.ipl i).zeroExtend 16

/-- Whether a logical address reaches a device region (20_memory.md R66). -/
def isDevice (s : State) (a : Word) : Bool :=
  match resolve s a with
  | .sram _ => false
  | .phys p => decide (regionAt s.regions p = some .device)

/-- Whether a write at a logical address is kept: the register file or a RAM region (20_memory.md R63, R64, R70). -/
def isWritable (s : State) (a : Word) : Bool :=
  match resolve s a with
  | .sram _ => true
  | .phys p => decide (regionAt s.regions p = some .ram)

/-- Whether a logical address reaches a RAM region, outside the register file. -/
def isRam (s : State) (a : Word) : Bool :=
  match resolve s a with
  | .sram _ => false
  | .phys p => decide (regionAt s.regions p = some .ram)

/-- Whether a logical address is outside the register file and reaches no device: a byte there is what it reads as,
and reading it changes nothing. -/
def isQuiet (s : State) (a : Word) : Bool := decide (0x100 ≤ a.toNat) && !isDevice s a

/-! ### What an instruction changes -/

/-- `t` is `s` with byte register `r` of the current bank holding `v` and FLAGS perhaps changed, and nothing else: no
other byte of memory or of any bank, no other field. -/
def AluByte (s t : State) (r : Nibble) (v : Byte) : Prop :=
  getX t r = v ∧ t = { s with sram := t.sram, flags := t.flags } ∧
    ∀ a : Word, a ≠ regAddr s r → readByte t a = readByte s a

/-- `t` is `s` with word register `r` of the current bank holding `v` and FLAGS perhaps changed, and nothing else. -/
def AluWord (s t : State) (r : WReg) (v : Word) : Prop :=
  getXw t r = v ∧ t = { s with sram := t.sram, flags := t.flags } ∧
    ∀ a : Word, a ≠ regAddr s r.hi → a ≠ regAddr s r.lo → readByte t a = readByte s a

/-- The four flags of a state (10_state.md R27). -/
def FlagsAre (t : State) (v m f l : Bool) : Prop :=
  flagV t.flags = v ∧ flagM t.flags = m ∧ flagF t.flags = f ∧ flagL t.flags = l

/-! ### Invariant and runs -/

/-- The region contents in canonical form, the registered regions nonempty ranges of the physical space that do not
overlap (20_memory.md R60, R61), and OPCOUNT within its width (00_scope.md R3). -/
def State.Inv (s : State) : Prop :=
  Memory.wf s.mem = true ∧ regionsOk s.regions = true ∧ opcountFits s.cfg s.opcount = true

/-- The core as `reset()` makes it, at the parameters it has (10_state.md R42, 70_reset_and_hazards.md R450). -/
def CoreReset (t : State) : Prop :=
  t.pc = t.cfg.resetVector ∧ t.flags = 0 ∧ t.ipl = 0 ∧ t.ie = false ∧ t.halted = false ∧ t.mb = 0 ∧
    t.dma.addr = 0 ∧ t.dma.count = 0 ∧ t.dma.enabled = false ∧ t.dma.mode = 0 ∧ t.opcount = 0 ∧
    (∀ i, sramByte t i = 0) ∧
    ∀ b e, ptEntry t b e = if e.toNat ≤ 29 then e.zeroExtend 8 else if e.toNat = 30 then 0x7E else 0x7F

/-- A step that is not Fatal (00_scope.md R5). -/
def SafeStep (s : State) : Prop := ∃ t, step s = .next t

/-- A sequence of turns with no Fatal and no host error: each leaves the machine in a state. -/
def SafeRun : List Turn → State → Prop
  | [], _ => True
  | t :: rest, s => ∃ s', takeTurn t (.defined s) = .next (.defined s') ∧ SafeRun rest s'

/-- The end of a run: HALTED (00_scope.md R6). -/
def Finished (s : State) : Prop := s.halted = true

end Sys2Proof.Machine
end

