-- ==== Sys2Proof/Certificates/Slice0/Obligations.lean ====
section
/-! DEFINITION. The statements for the provers. Each docstring says which rule of spec/ it formalises, and what is the
model's choice. -/

open Sys2Proof Sys2Proof.Machine

/-! ### Reset, host actions, the invariant -/

/-- 70_reset_and_hazards.md R450, R451: `reset()` sets every piece of core state to its reset value, whatever the
state was, halted or not, and touches neither the parameters, SW, REGIONS, the region contents nor the devices; and
after a Fatal step it does the same, while a step or an interrupt before it answers no state (60_exceptions.md R401).
That a Fatal leaves the host's side as the fetches left it is the model's (assumption 9). Decisions of the spec here:
D30, D34 (92_eei_decisions.md). -/
def Obligations.ResetState : Prop :=
  ∀ s : State,
    (∃ t, hostAct .reset s = .next t ∧ CoreReset t ∧
      t.regions = s.regions ∧ t.mem = s.mem ∧ t.devLog = s.devLog ∧ t.cfg = s.cfg ∧ t.sw = s.sw) ∧
    (∀ r, step s = .fault r →
      (∃ t, runTurns [.step, .host .reset] (.defined s) = .next (.defined t) ∧ CoreReset t ∧
        t.regions = s.regions ∧ t.mem = s.mem ∧ t.devLog = (fetchInstr s).2.devLog ∧ t.cfg = s.cfg ∧ t.sw = s.sw) ∧
      runTurns [.step, .step] (.defined s) = .fault r ∧
      ∀ l, runTurns [.step, .host (.trigger l)] (.defined s) = .fault r)

/-- The invariant holds of the state after reset (20_memory.md R60, R61, 00_scope.md R3). The canonical form of the
region contents is the model's (assumption 1), so are nonempty regions inside the physical space (assumption 10). -/
def Obligations.InvariantAtReset : Prop := State.reset.Inv

/-- The invariant is kept by every step from every state: the region contents stay in canonical form, the registered
regions stay nonempty, inside the physical space and without overlap, OPCOUNT stays within its width (20_memory.md
R60, R61, 10_state.md R36). The canonical form is the model's (assumption 1), so are the refusal of empty or
out-of-space regions (assumption 10) and the wrap of a bounded OPCOUNT (assumption 11). With it, what the host owns
no step changes: the regions, the parameters, the switches (00_scope.md R3, R4). Decisions of the spec here: D7, D27,
D31, D41 (92_eei_decisions.md). -/
def Obligations.StepKeepsInvariant : Prop :=
  ∀ s t : State, s.Inv → step s = .next t → t.Inv ∧ t.regions = s.regions ∧ t.cfg = s.cfg ∧ t.sw = s.sw

/-- The invariant is kept by every host action that answers a state, registration included (20_memory.md R60, R61,
00_scope.md R4). The canonical form of the region contents is the model's (assumption 1), so is the refusal of an
empty range or one outside the physical space, which makes registration keep the invariant (assumption 10), and so
are the host actions as functions of the state (assumption 8). -/
def Obligations.HostKeepsInvariant : Prop :=
  ∀ (a : HostAction) (s t : State), s.Inv → hostAct a s = .next t → t.Inv

/-! ### The step -/

/-- 40_control.md R156: a step whose bytes at PC, none of them a device's, are the encoding of a well-formed
instruction runs that instruction, with PC past its bytes and OPCOUNT raised by one, within its width (00_scope.md
R3; that a bounded count wraps is the model's, assumption 11). Decision of the spec here: D31
(92_eei_decisions.md). -/
def Obligations.StepRunsDecodedInstruction : Prop :=
  ∀ (s : State) (i : Instr), i.wf = true → s.halted = false →
    (∀ k : Fin (encode i).length, readByte s (s.pc + BitVec.ofNat 16 k) = (encode i).get k ∧
      isDevice s (s.pc + BitVec.ofNat 16 k) = false) →
    step s = exec i { s with pc := s.pc + BitVec.ofNat 16 (encode i).length, opcount := countOpcode s.cfg s.opcount }

/-- 10_state.md R36, 00_scope.md R3: OPCOUNT rises by one in every step that fetches and completes, HLT's included, by
default without bound, and modulo `2^w` where the parameter gives it a width `w` (that it wraps there is the model's,
assumption 11); it rises in no step of a halted core, and no host action but reset changes it. Decision of the spec
here: D31 (92_eei_decisions.md). -/
def Obligations.OpcountRisesByOne : Prop :=
  (∀ s t : State, step s = .next t →
    (s.halted = true → t.opcount = s.opcount) ∧
    (s.halted = false → s.cfg.opcountWidth = none → t.opcount = s.opcount + 1) ∧
    (∀ w, s.halted = false → s.cfg.opcountWidth = some w → t.opcount = (s.opcount + 1) % 2 ^ w)) ∧
  (∀ (a : HostAction) (s t : State), hostAct a s = .next t → a ≠ .reset → t.opcount = s.opcount)

/-- 00_scope.md R5: a step reports Executed(true), Executed(false) or Fatal with one of the four reasons. It is
Executed(false) exactly when the state it leaves is halted; a step of a halted core changes nothing at all. Decision
of the spec here: D29 (92_eei_decisions.md). -/
def Obligations.StepOutcome : Prop :=
  ∀ s : State,
    (s.halted = true → step s = .next s ∧ report s = some (.executed false)) ∧
    ((∃ t, step s = .next t ∧ report s = some (.executed (!t.halted))) ∨
     (∃ r, step s = .fault r ∧ report s = some (.fatal r) ∧ r.code ∈ [some 1, some 2, some 3, some 4]))

/-- 60_exceptions.md R400, R401: whether an instruction is Fatal depends on its encoding alone: one that completes
in some state completes in every state, and a Fatal one gives the same reason in every state. No data ends a run.
Decisions of the spec here: D29, D30 (92_eei_decisions.md). -/
def Obligations.DataNeverFaults : Prop :=
  ∀ i : Instr, (∀ s, ∃ t, exec i s = .next t) ∨ (∃ r, ∀ s, exec i s = .fault r)

/-! ### Decoding -/

/-- A few words written from the encoding tables: one of each format (30_encoding.md R101 to R107, R118). Decisions
of the spec here: D5, D16, D17, D18, D19, D20, D29 (92_eei_decisions.md). -/
def Obligations.SampleWordsDecode : Prop :=
  decode [0x0A] = .ok (.ri, []) ∧
  decode [0x14, 0x10] = .ok (.bz 0x10, []) ∧
  decode [0x35, 0x63] = .ok (.slr .Y 3, []) ∧
  decode [0x41, 0x13] = .ok (.subb 1 3, []) ∧
  decode [0x2E, 0x13, 0x30, 0x00] = .ok (.stmmu 3 0x3000, []) ∧
  decode [0x2F, 0x62] = .ok (.lddmc .Y, []) ∧
  decode [0x3E, 0x01, 0x20, 0x00, 0x30, 0x00] = .ok (.bcpy 1 0x2000 0x3000, []) ∧
  decode [0x95, 0x6E, 0x02] = .ok (.lda (.indexed .Y .preDec true (some 2)), []) ∧
  decode [0x76, 0x05] = .ok (.jsys 5, []) ∧
  decode [0x7F, 0xE3] = .ok (.pop 14 3, []) ∧
  decode [0x95, 0x73] = .ok (.ldaMm3 0x1C, []) ∧
  decode [0x2E, 0xF9] = .ok (.reserved2E 15 9, [])

/-- Decoding the encoding of any well-formed instruction, whatever bytes follow it, gives that instruction and those
bytes: no operand bit is dropped (30_encoding.md R100 to R107, R118, R119). That the encodings with no instruction
are constructors too is the model's (assumption 14). Decisions of the spec here: D5, D15, D16, D17, D18, D19, D20, D29
(92_eei_decisions.md). -/
def Obligations.DecodeEncode : Prop :=
  ∀ (i : Instr) (rest : List Byte), i.wf = true → decode (encode i ++ rest) = .ok (i, rest)

/-- Every six bytes begin with an instruction: no encoding is refused. Whatever bytes decode, the instruction is
well formed and its encoding is exactly the bytes consumed: no two byte strings are one instruction, no byte is read
without being in the instruction (30_encoding.md R100 to R107, R118, R119). That the encodings with no instruction,
which end in a Fatal, decode to instructions of their own is the model's (assumption 14). Decisions of the spec here:
D5, D16, D17, D18, D19, D20, D29 (92_eei_decisions.md). -/
def Obligations.EncodeDecode : Prop :=
  (∀ bytes : List Byte, 6 ≤ bytes.length → ∃ i rest, decode bytes = .ok (i, rest)) ∧
  (∀ (bytes rest : List Byte) (i : Instr), decode bytes = .ok (i, rest) → i.wf = true ∧ encode i ++ rest = bytes)

/-! ### Memory and translation -/

/-- 20_memory.md R74: the 8 bits of the entry that MB and the top five address bits select are physical bits 18:11, the
low eleven address bits pass through; IPL plays no part. And R76, which the spec derives from R74 and the reset page
tables of 10_state.md R42: the worked translations after reset, with any MB. -/
def Obligations.TranslationFormula : Prop :=
  (∀ (s : State) (a : Word) (k : Nibble),
    (translate s a).toNat = (ptEntry s s.mb (BitVec.ofNat 5 (a.toNat / 2048))).toNat * 2048 + a.toNat % 2048 ∧
    translate { s with ipl := k } a = translate s a) ∧
  (∀ mb : BitVec 3, let s := { State.reset with mb := mb }
    translate s 0x0100 = 0x00100 ∧ translate s 0x1234 = 0x01234 ∧ translate s 0xEFFF = 0x0EFFF ∧
    translate s 0xF000 = 0x3F000 ∧ translate s 0xFC00 = 0x3FC00 ∧ translate s 0xFFFF = 0x3FFFF)

/-- 10_state.md R24: byte register `i` of bank `k` is the byte at logical address `(k << 4) | i`, at every IPL and MB,
for reads and for writes. -/
def Obligations.RegistersAreMemory : Prop :=
  ∀ (s : State) (k i : Nibble) (v : Byte), let a : Word := BitVec.ofNat 16 (16 * k.toNat + i.toNat)
    readByte s a = getX { s with ipl := k } i ∧
    (memRead8 a s).2 = s ∧
    memWrite8 a v s = { setX { s with ipl := k } i v with ipl := s.ipl }

/-- 20_memory.md R62, R63, R64: a read of a physical address no region contains gives 0xFF for a byte and 0xFFFF for a
word, and changes nothing; a write to such an address, or to a ROM region, changes no state. -/
def Obligations.UnmappedAccess : Prop :=
  ∀ (s : State) (a : Word) (v : Byte), 0x100 ≤ a.toNat →
    (regionAt s.regions (translate s a) = none →
      memRead8 a s = (0xFF, s) ∧ memWrite8 a v s = s ∧
      (0x100 ≤ (a + 1).toNat → regionAt s.regions (translate s (a + 1)) = none → memRead16 a s = (0xFFFF, s))) ∧
    (regionAt s.regions (translate s a) = some .rom → memWrite8 a v s = s)

/-- A byte written to the register file or to RAM is what the next read of it answers, by whatever logical address
(20_memory.md R70, R72, R84); every other byte reads as before; a device's write is recorded and changes nothing
else (R66; the record is the model's, assumption 2). Decisions of the spec here: D35, D40 (92_eei_decisions.md). -/
def Obligations.WriteThenRead : Prop :=
  ∀ (s : State) (a : Word) (v : Byte), Memory.wf s.mem = true → let t := memWrite8 a v s
    (isWritable s a = true → ∀ b, resolve s b = resolve s a → readByte t b = v) ∧
    (∀ b, resolve s b ≠ resolve s a → isDevice s b = false → readByte t b = readByte s b) ∧
    (∀ p, isDevice s a = true → resolve s a = .phys p → t = { s with devLog := .write p v :: s.devLog })

/-- 20_memory.md R65, R67, R71, R72: a word access is two byte accesses, the byte at the address first, the high byte,
then the byte at the next address modulo 2^16, the low byte, each resolved on its own: at every address and in every
state a word read is the byte read at the address, then the one at the next in the state the first left, and a word
write likewise. Two devices see them in that order (their history is the model's, assumption 2). Outside the devices
the word reads as its two bytes; read back after a write to writable bytes it is the word written, and every other
byte is as before. Decision of the spec here: D36 (92_eei_decisions.md). -/
def Obligations.WordAccess : Prop :=
  ∀ (s : State) (a v : Word),
    (let h := memRead8 a s
     let l := memRead8 (a + 1) h.2
     memRead16 a s = (wordOf h.1 l.1, l.2)) ∧
    memWrite16 a v s = memWrite8 (a + 1) (loByte v) (memWrite8 a (hiByte v) s) ∧
    (∀ p q, isDevice s a = true → resolve s a = .phys p → isDevice s (a + 1) = true → resolve s (a + 1) = .phys q →
      (memRead16 a s).2 = { s with devLog := .read q :: .read p :: s.devLog } ∧
      memWrite16 a v s = { s with devLog := .write q (loByte v) :: .write p (hiByte v) :: s.devLog }) ∧
    (isDevice s a = false → isDevice s (a + 1) = false →
      memRead16 a s = (wordOf (readByte s a) (readByte s (a + 1)), s)) ∧
    (Memory.wf s.mem = true → isWritable s a = true → isWritable s (a + 1) = true → let t := memWrite16 a v s
      memRead16 a t = (v, t) ∧ readByte t a = hiByte v ∧ readByte t (a + 1) = loByte v ∧
      ∀ b, resolve s b ≠ resolve s a → resolve s b ≠ resolve s (a + 1) → isDevice s b = false →
        readByte t b = readByte s b)

/-! ### Control group -/

/-- The control instructions on FLAGS, IE, HALTED, PC and X: HLT, NOP, SF, RF, EI, DI, SL, RL, CL, CF, DLY and PCX
have exactly their effect and no other (40_control.md R140 to R148, R152 to R154). Decisions of the spec here: D6,
D23 (92_eei_decisions.md). -/
def Obligations.ControlEffects : Prop :=
  ∀ s : State,
    exec .hlt s = .next { s with halted := true } ∧
    exec .nop s = .next s ∧
    exec .sf s = .next { s with flags := packFlags (flagV s.flags) (flagM s.flags) true (flagL s.flags) } ∧
    exec .rf s = .next { s with flags := packFlags (flagV s.flags) (flagM s.flags) false (flagL s.flags) } ∧
    exec .ei s = .next { s with ie := true } ∧
    exec .di s = .next { s with ie := false } ∧
    exec .sl s = .next { s with flags := packFlags (flagV s.flags) (flagM s.flags) (flagF s.flags) true } ∧
    exec .rl s = .next { s with flags := packFlags (flagV s.flags) (flagM s.flags) (flagF s.flags) false } ∧
    exec .cl s = .next { s with flags := packFlags (flagV s.flags) (flagM s.flags) (flagF s.flags) (!flagL s.flags) } ∧
    exec .cf s = .next { s with flags := packFlags (flagV s.flags) (flagM s.flags) (!flagF s.flags) (flagL s.flags) } ∧
    exec .dly s = .next s ∧
    ∃ t, exec .pcx s = .next t ∧ AluWord s t .X s.pc ∧ t.flags = s.flags

/-- 40_control.md R149: RSR jumps to X and pops the word at S into X; S rises by two; flags, memory and every other
register are unchanged. For a stack word outside the register file and the devices. The devices' history is the
model's (assumption 2). -/
def Obligations.ReturnFromSubroutine : Prop :=
  ∀ s : State, ∃ t, exec .rsr s = .next t ∧
    t = { s with pc := getXw s .X, sram := t.sram, devLog := t.devLog } ∧
    (isQuiet s (getXw s .S) = true → isQuiet s (getXw s .S + 1) = true →
      getXw t .X = wordOf (readByte s (getXw s .S)) (readByte s (getXw s .S + 1)) ∧
      getXw t .S = getXw s .S + 2 ∧ t.devLog = s.devLog ∧
      ∀ i : Byte, i ≠ regIndex s.ipl WReg.X.hi → i ≠ regIndex s.ipl WReg.X.lo → i ≠ regIndex s.ipl WReg.S.hi →
        i ≠ regIndex s.ipl WReg.S.lo → sramByte t i = sramByte s i)

/-- 40_control.md R150 (and R151: RIM is identical): IPL from CL[7:4] of the bank being left, then FLAGS from
CH[7:4] and PC from P of the bank now current; nothing else changes, no register is written. Decisions of the spec
here: D3, D33 (92_eei_decisions.md). -/
def Obligations.ReturnFromInterrupt : Prop :=
  ∀ s : State, ∀ i ∈ [Instr.ri, Instr.rim],
    exec i s = .next
      (let k := hiNibble (sramByte s (regIndex s.ipl 13))
       { s with
         ipl := k
         flags := hiNibble (sramByte s (regIndex k 12))
         pc := wordOf (sramByte s (regIndex k 14)) (sramByte s (regIndex k 15)) })

/-- 40_control.md R155: RSYS returns to the X of its entry; X, IPL and MB come from the frame above the argument
byte, X written in the bank of the entry; S of that bank rises by five; nothing else changes. For a frame outside
the register file and the devices. The devices' history is the model's (assumption 2). Decisions of the spec here:
D27, D44 (92_eei_decisions.md). -/
def Obligations.ReturnFromSystemCall : Prop :=
  ∀ s : State, let sp := getXw s .S
    ∃ t, exec .rsys s = .next t ∧
    t = { s with pc := getXw s .X, ipl := t.ipl, mb := t.mb, sram := t.sram, devLog := t.devLog } ∧
    ((∀ k : Fin 5, isQuiet s (sp + BitVec.ofNat 16 k) = true) →
      t.ipl = loNibble (readByte s (sp + 3)) ∧ t.mb = (readByte s (sp + 4)).extractLsb' 0 3 ∧ t.devLog = s.devLog ∧
      getXw { t with ipl := s.ipl } .X = wordOf (readByte s (sp + 1)) (readByte s (sp + 2)) ∧
      getXw { t with ipl := s.ipl } .S = sp + 5 ∧
      ∀ i : Byte, i ≠ regIndex s.ipl WReg.X.hi → i ≠ regIndex s.ipl WReg.X.lo → i ≠ regIndex s.ipl WReg.S.hi →
        i ≠ regIndex s.ipl WReg.S.lo → sramByte t i = sramByte s i)

/-! ### Branches -/

/-- 41_branch.md R171 with R170: with the default table each of the sixteen branches goes to PC plus its signed
displacement exactly when its condition holds, else on to the next instruction, and changes nothing but PC. Decision
of the spec here: D7 (92_eei_decisions.md). -/
def Obligations.BranchesByDefaultTable : Prop :=
  ∀ (s : State) (d : Byte), s.cfg.branchOverrides = [] →
    let fl := s.flags
    let go : Bool → Host.Outcome State Fault Refusal :=
      fun b => .next { s with pc := if b then s.pc + d.signExtend 16 else s.pc }
    exec (.bl d) s = go (flagL fl) ∧ exec (.bnl d) s = go (!flagL fl) ∧
    exec (.bf d) s = go (flagF fl) ∧ exec (.bnf d) s = go (!flagF fl) ∧
    exec (.bz d) s = go (flagV fl) ∧ exec (.bnz d) s = go (!flagV fl) ∧
    exec (.bm d) s = go (flagM fl) ∧ exec (.bp d) s = go (!flagM fl) ∧
    exec (.bs1 d) s = go (s.sw.getLsbD 0) ∧ exec (.bns1 d) s = go (!s.sw.getLsbD 0) ∧
    exec (.bs2 d) s = go (s.sw.getLsbD 1) ∧ exec (.bns2 d) s = go (!s.sw.getLsbD 1) ∧
    exec (.bs3 d) s = go (s.sw.getLsbD 2) ∧ exec (.bns3 d) s = go (!s.sw.getLsbD 2) ∧
    exec (.bs4 d) s = go (s.sw.getLsbD 3) ∧ exec (.bns4 d) s = go (!s.sw.getLsbD 3)

/-- 41_branch.md R170, R171: opcode 0x10 plus `c` with a displacement byte is a branch, and with any table it sets PC to
PC plus the multiplier of its entry times the signed displacement, modulo 2^16, and changes nothing else. The entry is
the one at index `FLAGS << 8 | c << 4 | SW`: a table that differs from the default at one index gives that entry's
multiplier at exactly the FLAGS, the condition code and the SW of the index, and the default everywhere else. That a
table is held as its differences from the default is the model's (assumption 4). Decision of the spec here: D7
(92_eei_decisions.md). -/
def Obligations.BranchesByAnyTable : Prop :=
  ∀ (s : State) (d : Byte) (c : Fin 16),
    let b := [Instr.bl d, .bnl d, .bf d, .bnf d, .bz d, .bnz d, .bm d, .bp d, .bs1 d, .bns1 d, .bs2 d, .bns2 d, .bs3 d,
        .bns3 d, .bs4 d, .bns4 d].get c
    let taken := [flagL s.flags, !flagL s.flags, flagF s.flags, !flagF s.flags, flagV s.flags, !flagV s.flags,
        flagM s.flags, !flagM s.flags, s.sw.getLsbD 0, !s.sw.getLsbD 0, s.sw.getLsbD 1, !s.sw.getLsbD 1,
        s.sw.getLsbD 2, !s.sw.getLsbD 2, s.sw.getLsbD 3, !s.sw.getLsbD 3].get c
    let go : Multiplier → Host.Outcome State Fault Refusal := fun m =>
      .next { s with
        pc := match m with
          | .plusOne => s.pc + d.signExtend 16
          | .zero => s.pc
          | .minusOne => s.pc - d.signExtend 16 }
    decode [BitVec.ofNat 8 (0x10 + c), d] = .ok (b, []) ∧
    exec b s = go (branchTable s.cfg s.flags (BitVec.ofNat 4 c) s.sw) ∧
    ∀ (fl sw : Nibble) (k : Fin 16) (m : Multiplier),
      s.cfg.branchOverrides = [(BitVec.ofNat 12 (fl.toNat * 256 + k * 16 + sw.toNat), m)] →
      exec b s = go (if s.flags = fl ∧ c = k ∧ s.sw = sw then m else if taken then .plusOne else .zero)

/-! ### Unary ALU -/

/-- 42_unary_alu.md R191, R192, R193: increment and decrement by the count, clear, invert, on byte and word
registers: the register takes the result, V and M come from it, F and L keep their values, nothing else changes.
Decision of the spec here: D10 (92_eei_decisions.md). -/
def Obligations.IncrementDecrementClearInvert : Prop :=
  ∀ (s : State) (r n : Nibble) (w : WReg),
    (∀ p ∈ [(Instr.inrb r n, BitVec.ofNat 8 ((getX s r).toNat + (n.toNat + 1))),
        (.dcrb r n, BitVec.ofInt 8 ((getX s r).toNat - (n.toNat + 1))),
        (.clrb r n, 0), (.ivrb r n, BitVec.ofNat 8 (255 - (getX s r).toNat))],
      ∃ t, exec p.1 s = .next t ∧ AluByte s t r p.2 ∧
        FlagsAre t (p.2 == 0) p.2.msb (flagF s.flags) (flagL s.flags)) ∧
    (∀ p ∈ [(Instr.inr w n, BitVec.ofNat 16 ((getXw s w).toNat + (n.toNat + 1))),
        (.dcr w n, BitVec.ofInt 16 ((getXw s w).toNat - (n.toNat + 1))),
        (.clr w n, 0), (.ivr w n, BitVec.ofNat 16 (65535 - (getXw s w).toNat))],
      ∃ t, exec p.1 s = .next t ∧ AluWord s t w p.2 ∧
        FlagsAre t (p.2 == 0) p.2.msb (flagF s.flags) (flagL s.flags))

/-- 42_unary_alu.md R194, R195: the shifts by `n + 1`. Right: the signed operand divided by `2^(n+1)`, rounded down;
L is the last bit shifted out, F is kept. Left: the operand times `2^(n+1)` modulo 2^N; L is the last bit shifted
out, F is 1 exactly when the sign of the result is not the operand's. V and M come from the result; nothing else
changes. Decision of the spec here: D12 (92_eei_decisions.md). -/
def Obligations.Shifts : Prop :=
  ∀ (s : State) (r n : Nibble) (w : WReg),
    (∃ t, exec (.srrb r n) s = .next t ∧
      let v := BitVec.ofInt 8 ((getX s r).toInt / 2 ^ (n.toNat + 1))
      AluByte s t r v ∧
        FlagsAre t (v == 0) v.msb (flagF s.flags) (decide ((getX s r).toInt / 2 ^ n.toNat % 2 = 1))) ∧
    (∃ t, exec (.srr w n) s = .next t ∧
      let v := BitVec.ofInt 16 ((getXw s w).toInt / 2 ^ (n.toNat + 1))
      AluWord s t w v ∧
        FlagsAre t (v == 0) v.msb (flagF s.flags) (decide ((getXw s w).toInt / 2 ^ n.toNat % 2 = 1))) ∧
    (∃ t, exec (.slrb r n) s = .next t ∧
      let v := BitVec.ofNat 8 ((getX s r).toNat * 2 ^ (n.toNat + 1))
      AluByte s t r v ∧
        FlagsAre t (v == 0) v.msb ((getX s r).msb != v.msb) (((getX s r).toNat * 2 ^ n.toNat).testBit 7)) ∧
    (∃ t, exec (.slr w n) s = .next t ∧
      let v := BitVec.ofNat 16 ((getXw s w).toNat * 2 ^ (n.toNat + 1))
      AluWord s t w v ∧
        FlagsAre t (v == 0) v.msb ((getXw s w).msb != v.msb) (((getXw s w).toNat * 2 ^ n.toNat).testBit 15))

/-- 42_unary_alu.md R196, R197: a rotate by `n + 1` turns the ring of LINK and the register, `L ∥ v`, that many
places; V and M come from the result, F is kept, nothing else changes. Decision of the spec here: D12
(92_eei_decisions.md). -/
def Obligations.RotateThroughLink : Prop :=
  ∀ (s : State) (r n : Nibble) (w : WReg),
    let ring8 : BitVec 9 := BitVec.ofBool (flagL s.flags) ++ getX s r
    let ring16 : BitVec 17 := BitVec.ofBool (flagL s.flags) ++ getXw s w
    (∀ p ∈ [(Instr.rrrb r n, ring8.rotateRight (n.toNat + 1)), (.rlrb r n, ring8.rotateLeft (n.toNat + 1))],
      ∃ t, exec p.1 s = .next t ∧ AluByte s t r (p.2.extractLsb' 0 8) ∧
        FlagsAre t (p.2.extractLsb' 0 8 == 0) (p.2.getLsbD 7) (flagF s.flags) (p.2.getLsbD 8)) ∧
    (∀ p ∈ [(Instr.rrr w n, ring16.rotateRight (n.toNat + 1)), (.rlr w n, ring16.rotateLeft (n.toNat + 1))],
      ∃ t, exec p.1 s = .next t ∧ AluWord s t w (p.2.extractLsb' 0 16) ∧
        FlagsAre t (p.2.extractLsb' 0 16 == 0) (p.2.getLsbD 15) (flagF s.flags) (p.2.getLsbD 16))

/-- 42_unary_alu.md R199 and 44_binary_alu.md R286, R288 to R293, R300, R302 to R307: each implicit form completes
exactly as the explicit form on its fixed registers, AL and BL, XL, YL, ZL, SL, or A and B, X, Y, Z, S, with a count
of 1. (SABB and SAB are in Subtraction.) Decision of the spec here: D11 (92_eei_decisions.md). -/
def Obligations.ImplicitForms : Prop :=
  ∀ s : State,
    ∀ p ∈ [(Instr.inab, Instr.inrb 1 0), (.dcab, .dcrb 1 0), (.clab, .clrb 1 0), (.ivab, .ivrb 1 0),
        (.srab, .srrb 1 0), (.slab, .slrb 1 0), (.ina, .inr .A 0), (.dca, .dcr .A 0), (.cla, .clr .A 0),
        (.iva, .ivr .A 0), (.sra, .srr .A 0), (.sla, .slr .A 0),
        (.aabb, .addb 1 3), (.nabb, .andb 1 3), (.xaxb, .xfrb 1 5), (.xayb, .xfrb 1 7),
        (.xabb, .xfrb 1 3), (.xazb, .xfrb 1 9), (.xasb, .xfrb 1 11), (.aab, .add .A .B), (.nab, .and .A .B),
        (.xax, .xfr .A .X), (.xay, .xfr .A .Y), (.xab, .xfr .A .B), (.xaz, .xfr .A .Z), (.xas, .xfr .A .S)],
      ∃ t, exec p.1 s = .next t ∧ exec p.2 s = .next t

/-- 42_unary_alu.md R198, 10_state.md R40: the shift, rotate and invert instructions on a byte register give what the
tables give: the register takes the result of the entry at the operand, the count and, for a rotate, LINK; the entry's
flag nibble is merged into FLAGS by mask and or, the mask being the flags the operation writes. The entries are closed
formulas: a division rounded down, a product, the 9-bit ring of LINK and the operand turned. MV16 likewise for the word
invert. Decision of the spec here: D12 (92_eei_decisions.md). -/
def Obligations.TablesAgreeWithLaws : Prop :=
  ∀ (s : State) (r n : Nibble) (w : WReg),
    let v := getX s r
    let c := n.toNat + 1
    let l := flagL s.flags
    (∀ p ∈ [(Instr.srrb r n, (0b1101 : FlagNibble), tableSRB v c), (.slrb r n, 0b1111, tableSLB v c),
        (.rrrb r n, 0b1101, tableRRB v c l), (.rlrb r n, 0b1101, tableRLB v c l),
        (.ivrb r n, 0b1100, (~~~v, tableMV (~~~v)))],
      ∃ t, exec p.1 s = .next t ∧ AluByte s t r p.2.2.1 ∧ t.flags = mergeFlags p.2.1 p.2.2.2 s.flags) ∧
    ∃ t, exec (.ivr w n) s = .next t ∧ AluWord s t w (~~~getXw s w) ∧
      t.flags = mergeFlags 0b1100 (tableMV (~~~getXw s w)) s.flags

/-! ### Binary ALU -/

/-- 44_binary_alu.md R271: ADD on byte and word registers: the unbounded sum modulo 2^w to the destination, L its
carry, V and M from the result, F unchanged, nothing else changed. Decision of the spec here: D13
(92_eei_decisions.md). -/
def Obligations.Addition : Prop :=
  ∀ (s : State) (a b : Nibble) (u w : WReg),
    (∃ t, exec (.addb a b) s = .next t ∧
      let sum := (getX s a).toNat + (getX s b).toNat
      let v := BitVec.ofNat 8 sum
      AluByte s t b v ∧ FlagsAre t (v == 0) v.msb (flagF s.flags) (decide (256 ≤ sum))) ∧
    (∃ t, exec (.add u w) s = .next t ∧
      let sum := (getXw s u).toNat + (getXw s w).toNat
      let v := BitVec.ofNat 16 sum
      AluWord s t w v ∧ FlagsAre t (v == 0) v.msb (flagF s.flags) (decide (65536 ≤ sum)))

/-- 44_binary_alu.md R272: SUB in all four opcodes: source minus destination to the destination, L the unsigned `d ≤
s`, F by the formula with the strict result test for the explicit word SUB and the nonstrict one for SUBB, SABB and
SAB, V and M from the result, nothing else changed. Decision of the spec here: D14 (92_eei_decisions.md). -/
def Obligations.Subtraction : Prop :=
  ∀ (s : State) (a b : Nibble) (u w : WReg),
    (∀ p ∈ [(Instr.subb a b, a, b), (.sabb, 1, 3)], ∃ t, exec p.1 s = .next t ∧
      let x := getX s p.2.1
      let y := getX s p.2.2
      let v := BitVec.ofInt 8 ((x.toNat : Int) - y.toNat)
      AluByte s t p.2.2 v ∧
        FlagsAre t (v == 0) v.msb (decide (x.toInt < 0) != (decide (y.toInt < 0) && decide (v.toInt ≤ 0)))
          (decide (y.toNat ≤ x.toNat))) ∧
    (∃ t, exec (.sub u w) s = .next t ∧
      let x := getXw s u
      let y := getXw s w
      let v := BitVec.ofInt 16 ((x.toNat : Int) - y.toNat)
      AluWord s t w v ∧
        FlagsAre t (v == 0) v.msb (decide (x.toInt < 0) != (decide (y.toInt < 0) && decide (v.toInt < 0)))
          (decide (y.toNat ≤ x.toNat))) ∧
    (∃ t, exec .sab s = .next t ∧
      let x := getXw s .A
      let y := getXw s .B
      let v := BitVec.ofInt 16 ((x.toNat : Int) - y.toNat)
      AluWord s t .B v ∧
        FlagsAre t (v == 0) v.msb (decide (x.toInt < 0) != (decide (y.toInt < 0) && decide (v.toInt ≤ 0)))
          (decide (y.toNat ≤ x.toNat)))

/-- 44_binary_alu.md R273: AND, inclusive or, exclusive or and every transfer, explicit and implicit: the bitwise result,
or the source, to the destination, V and M from it, F and L kept, nothing else changed. -/
def Obligations.LogicAndTransfer : Prop :=
  ∀ (s : State) (a b : Nibble) (u w : WReg),
    (∀ p ∈ [(Instr.andb a b, b, getX s a &&& getX s b), (.orib a b, b, getX s a ||| getX s b),
        (.oreb a b, b, getX s a ^^^ getX s b), (.xfrb a b, b, getX s a), (.nabb, 3, getX s 1 &&& getX s 3),
        (.xaxb, 5, getX s 1), (.xayb, 7, getX s 1), (.xabb, 3, getX s 1), (.xazb, 9, getX s 1),
        (.xasb, 11, getX s 1)],
      ∃ t, exec p.1 s = .next t ∧ AluByte s t p.2.1 p.2.2 ∧
        FlagsAre t (p.2.2 == 0) p.2.2.msb (flagF s.flags) (flagL s.flags)) ∧
    (∀ p ∈ [(Instr.and u w, w, getXw s u &&& getXw s w), (.ori u w, w, getXw s u ||| getXw s w),
        (.ore u w, w, getXw s u ^^^ getXw s w), (.xfr u w, w, getXw s u), (.nab, .B, getXw s .A &&& getXw s .B),
        (.xax, .X, getXw s .A), (.xay, .Y, getXw s .A), (.xab, .B, getXw s .A), (.xaz, .Z, getXw s .A),
        (.xas, .S, getXw s .A)],
      ∃ t, exec p.1 s = .next t ∧ AluWord s t p.2.1 p.2.2 ∧
        FlagsAre t (p.2.2 == 0) p.2.2.msb (flagF s.flags) (flagL s.flags))

/-! ### Page tables, DMA registers, blocks -/

/-- 43_mmu_dma_block.md R241: LDMMU completes and writes the 32 entries of its bank and no other, in ascending
order, each read through the table as the entries before it have left it; memory, registers and flags are unchanged.
For a bank not in use, with no device among the sources, the entries are the 32 bytes as they were. The devices'
history is the model's (assumption 2). Decision of the spec here: D16 (92_eei_decisions.md). -/
def Obligations.LoadPageTable : Prop :=
  ∀ (s : State) (b : BitVec 3) (addr : Word), ∃ t, exec (.ldmmu b addr) s = .next t ∧
    t = { s with pt := t.pt, devLog := t.devLog } ∧
    (∀ c e, c ≠ b → ptEntry t c e = ptEntry s c e) ∧
    (∀ e : BitVec 5, ptEntry t b e = readByte (loadTable b e.toNat 0 addr s) (addr + e.zeroExtend 16)) ∧
    (b ≠ s.mb → (∀ e : BitVec 5, isDevice s (addr + e.zeroExtend 16) = false) →
      t.devLog = s.devLog ∧ ∀ e : BitVec 5, ptEntry t b e = readByte s (addr + e.zeroExtend 16))

/-- 43_mmu_dma_block.md R242: STMMU completes, leaves PT, registers outside its 32 bytes and flags alone, and, where
the 32 bytes are writable, they hold the bank's entries in ascending order; every other byte is as before. The
devices' history is the model's (assumption 2). Decision of the spec here: D16 (92_eei_decisions.md). -/
def Obligations.StorePageTable : Prop :=
  ∀ (s : State) (b : BitVec 3) (addr : Word), ∃ t, exec (.stmmu b addr) s = .next t ∧
    t = { s with sram := t.sram, mem := t.mem, devLog := t.devLog } ∧
    (∀ a, isDevice s a = false → (∀ e : BitVec 5, resolve s a ≠ resolve s (addr + e.zeroExtend 16)) →
      readByte t a = readByte s a) ∧
    (Memory.wf s.mem = true → (∀ e : BitVec 5, isWritable s (addr + e.zeroExtend 16) = true) →
      t.devLog = s.devLog ∧ ∀ e : BitVec 5, readByte t (addr + e.zeroExtend 16) = ptEntry s b e)

/-- 43_mmu_dma_block.md R243 to R250: the DMA-register instructions write or read the one register each names; no
flag, no memory and nothing else changes, and no transfer happens. Decision of the spec here: D17
(92_eei_decisions.md). -/
def Obligations.DmaRegisters : Prop :=
  ∀ (s : State) (r : WReg) (m : Nibble),
    exec (.lddma r) s = .next { s with dma := { s.dma with addr := getXw s r } } ∧
    exec (.lddmc r) s = .next { s with dma := { s.dma with count := getXw s r } } ∧
    (∃ t, exec (.stdma r) s = .next t ∧ AluWord s t r s.dma.addr ∧ t.flags = s.flags) ∧
    (∃ t, exec (.stdmc r) s = .next t ∧ AluWord s t r s.dma.count ∧ t.flags = s.flags) ∧
    exec (.sdmam m) s = .next { s with dma := { s.dma with mode := m } } ∧
    exec .edma s = .next { s with dma := { s.dma with enabled := true } } ∧
    exec .ddma s = .next { s with dma := { s.dma with enabled := false } }

/-- 43_mmu_dma_block.md R251: BCPY completes, changing nothing but memory, the register file and the devices'
history. Byte after byte in ascending order, each is read in the state that the bytes before it left, whatever the
ranges share, and written before the next is read; a writable destination byte ends as the byte so read; every byte
outside the destination is as before, whatever the sources are. Where the destination is writable, no source byte is
a device's, and the two ranges share no byte, each destination byte is the source byte as it was. The devices' history
is the model's (assumption 2). Decision of the spec here: D18 (92_eei_decisions.md). -/
def Obligations.BlockCopy : Prop :=
  ∀ (s : State) (n : Byte) (src dst : Word), ∃ (t : State) (u : Nat → State), exec (.bcpy n src dst) s = .next t ∧
    t = { s with sram := t.sram, mem := t.mem, devLog := t.devLog } ∧
    u 0 = s ∧ t = u (n.toNat + 1) ∧
    (∀ i ≤ n.toNat, let r := memRead8 (src + BitVec.ofNat 16 i) (u i)
      u (i + 1) = memWrite8 (dst + BitVec.ofNat 16 i) r.1 r.2) ∧
    (Memory.wf s.mem = true → ∀ i ≤ n.toNat, isWritable s (dst + BitVec.ofNat 16 i) = true →
      readByte t (dst + BitVec.ofNat 16 i) = readByte (u i) (src + BitVec.ofNat 16 i)) ∧
    (∀ a, isDevice s a = false → (∀ i ≤ n.toNat, resolve s a ≠ resolve s (dst + BitVec.ofNat 16 i)) →
      readByte t a = readByte s a) ∧
    (Memory.wf s.mem = true → (∀ i ≤ n.toNat, isDevice s (src + BitVec.ofNat 16 i) = false) →
      (∀ i ≤ n.toNat, isWritable s (dst + BitVec.ofNat 16 i) = true) →
      (∀ i ≤ n.toNat, ∀ j ≤ n.toNat,
        resolve s (src + BitVec.ofNat 16 i) ≠ resolve s (dst + BitVec.ofNat 16 j)) →
      t.devLog = s.devLog ∧
      ∀ i ≤ n.toNat, readByte t (dst + BitVec.ofNat 16 i) = readByte s (src + BitVec.ofNat 16 i))

/-- 43_mmu_dma_block.md R252: BCMP completes; M, F, L, memory, registers and everything but V and the devices'
history are unchanged; with no device in the two ranges V is 1 exactly when all `n + 1` pairs are equal. The
devices' history is the model's (assumption 2). Decision of the spec here: D18 (92_eei_decisions.md). -/
def Obligations.BlockCompare : Prop :=
  ∀ (s : State) (n : Byte) (src dst : Word), ∃ t, exec (.bcmp n src dst) s = .next t ∧
    t = { s with flags := t.flags, devLog := t.devLog } ∧
    FlagsAre t (flagV t.flags) (flagM s.flags) (flagF s.flags) (flagL s.flags) ∧
    ((∀ i ≤ n.toNat, isDevice s (src + BitVec.ofNat 16 i) = false ∧ isDevice s (dst + BitVec.ofNat 16 i) = false) →
      t.devLog = s.devLog ∧
      (flagV t.flags = true ↔
        ∀ i ≤ n.toNat, readByte s (src + BitVec.ofNat 16 i) = readByte s (dst + BitVec.ofNat 16 i)))

/-! ### Addressing modes, loads, stores -/

/-- The effective address and the state it leaves, mode by mode (45_load_store.md R311 to R316, R318, R320): after
the tail's bytes are fetched, PC pointing past them. Decisions of the spec here: D19, D20, D21
(92_eei_decisions.md). -/
def Obligations.EffectiveAddress : Prop :=
  ∀ (s : State) (z : Size) (a : Word) (d : Byte) (r : WReg),
    effAddr .literal z s = (s.pc, { s with pc := s.pc + z.bytes }) ∧
    effAddr (.direct a) z s = (a, s) ∧
    effAddr (.indirect a) z s = memRead16 a s ∧
    effAddr (.relative d) z s = (s.pc + d.signExtend 16, s) ∧
    effAddr (.relIndirect d) z s = memRead16 (s.pc + d.signExtend 16) s ∧
    effAddr (.register r) .word s = (regAddr s r.hi, s) ∧
    effAddr (.register r) .byte s = (regAddr s r.lo, s) ∧
    ∀ disp ∈ [none, some d],
      let x : Word := if disp = none then 0 else d.signExtend 16
      let dec := setXw s r (getXw s r - z.bytes)
      let inc := setXw s r (getXw s r + z.bytes)
      effAddr (.indexed r .plain false disp) z s = (getXw s r + x, s) ∧
      effAddr (.indexed r .postInc false disp) z s = (getXw s r + x, inc) ∧
      effAddr (.indexed r .preDec false disp) z s = (getXw s r - z.bytes + x, dec) ∧
      effAddr (.indexed r .plain true disp) z s = memRead16 (getXw s r + x) s ∧
      effAddr (.indexed r .postInc true disp) z s = memRead16 (getXw s r + x) inc ∧
      effAddr (.indexed r .preDec true disp) z s = memRead16 (getXw s r - z.bytes + x) dec

/-- What computing an address touches (45_load_store.md R319): PC in literal mode only, an index register in the two
stepping modes only, the devices' history in the indirect modes only; no flag, no memory, no other register. The
devices' history is the model's (assumption 2). -/
def Obligations.AddressingFrame : Prop :=
  ∀ (s : State) (m : Mode) (z : Size), let t := (effAddr m z s).2
    t = { s with pc := t.pc, sram := t.sram, devLog := t.devLog } ∧
    (m ≠ .literal → t.pc = s.pc) ∧
    (∀ i : Byte, (∀ j ∈ m.steppedRegs, i ≠ regIndex s.ipl j) → sramByte t i = sramByte s i) ∧
    ((∀ r st d, m ≠ .indexed r st true d) → (∀ a, m ≠ .indirect a) → (∀ d, m ≠ .relIndirect d) →
      t.devLog = s.devLog)

/-- The byte loads LDAB and LDBB in every addressing mode: the register takes the byte at the effective address,
read after the address is computed; V and M come from it, F and L are kept; every other register is as the address
left it, every other byte of memory as before (45_load_store.md R310, R321, R325, R328, R332). The devices' history
is the model's (assumption 2). Decisions of the spec here: D21, D23 (92_eei_decisions.md). -/
def Obligations.LoadByteForms : Prop :=
  ∀ (s : State) (m : Mode), ∀ p ∈ [(Instr.ldab m, WReg.A.lo), (.ldbb m, WReg.B.lo)],
    let ea := effAddr m .byte s
    let v := readByte ea.2 ea.1
    ∃ t, exec p.1 s = .next t ∧
      t = { s with pc := ea.2.pc, flags := t.flags, sram := t.sram, devLog := t.devLog } ∧
      getX t p.2 = v ∧ (∀ i, i ≠ p.2 → getX t i = getX ea.2 i) ∧
      FlagsAre t (v == 0) v.msb (flagF s.flags) (flagL s.flags) ∧
      (isDevice s ea.1 = false → t.devLog = ea.2.devLog) ∧
      ∀ a, isDevice s a = false → a ≠ regAddr s p.2 → (∀ j ∈ m.steppedRegs, a ≠ regAddr s j) →
        readByte t a = readByte s a

/-- The word loads LDA, LDB in every mode and LDX in every mode it has (45_load_store.md R310, R321, R325, R326,
R329, R333): the register takes the word at the effective address, the high byte read first. The devices' history is
the model's (assumption 2). Decisions of the spec here: D21, D23, D24 (92_eei_decisions.md). -/
def Obligations.LoadWordForms : Prop :=
  ∀ (s : State) (m : Mode), ∀ p ∈ [(Instr.lda m, WReg.A), (.ldb m, .B), (.ldx m, .X)], p.1.wf = true →
    let ea := effAddr m .word s
    let v := (memRead16 ea.1 ea.2).1
    ∃ t, exec p.1 s = .next t ∧
      t = { s with pc := ea.2.pc, flags := t.flags, sram := t.sram, devLog := t.devLog } ∧
      getXw t p.2 = v ∧ (∀ q, q ≠ p.2 → getXw t q = getXw ea.2 q) ∧
      FlagsAre t (v == 0) v.msb (flagF s.flags) (flagL s.flags) ∧
      (isDevice s ea.1 = false → isDevice s (ea.1 + 1) = false →
        v = wordOf (readByte ea.2 ea.1) (readByte ea.2 (ea.1 + 1)) ∧ t.devLog = ea.2.devLog) ∧
      ∀ a, isDevice s a = false → a ≠ regAddr s p.2.hi → a ≠ regAddr s p.2.lo →
        (∀ j ∈ m.steppedRegs, a ≠ regAddr s j) → readByte t a = readByte s a

/-- The byte stores STAB and STBB in every addressing mode: the byte at the effective address, computed first,
becomes the register's, read after it, where the place is the register file or RAM; elsewhere it is dropped, or a
device's; V and M come from the value, F and L are kept; every other byte is as before but a stepped index register
(45_load_store.md R310, R321, R322, R325, R330, R334). That a device store is put on the devices' history, and the
history itself, are the model's (assumption 2). Decisions of the spec here: D21, D22, D23 (92_eei_decisions.md). -/
def Obligations.StoreByteForms : Prop :=
  ∀ (s : State) (m : Mode), Memory.wf s.mem = true →
    ∀ p ∈ [(Instr.stab m, WReg.A.lo), (.stbb m, WReg.B.lo)],
    let ea := effAddr m .byte s
    let v := getX ea.2 p.2
    ∃ t, exec p.1 s = .next t ∧
      t = { s with pc := ea.2.pc, flags := t.flags, sram := t.sram, mem := t.mem, devLog := t.devLog } ∧
      FlagsAre t (v == 0) v.msb (flagF s.flags) (flagL s.flags) ∧
      (isWritable s ea.1 = true → readByte t ea.1 = v) ∧
      (∀ q, isDevice s ea.1 = true → resolve s ea.1 = .phys q → t.devLog = .write q v :: ea.2.devLog) ∧
      (isDevice s ea.1 = false → t.devLog = ea.2.devLog) ∧
      ∀ a, isDevice s a = false → (isWritable s ea.1 = true → resolve s a ≠ resolve s ea.1) →
        (∀ j ∈ m.steppedRegs, a ≠ regAddr s j) → readByte t a = readByte s a

/-- The word stores STA, STB in every mode and STX in every mode it has: the high byte to the effective address, the
low byte to the next address modulo 2^16, each to its own place; flags and frame as for the bytes (45_load_store.md
R310, R321, R322, R325, R327, R331, R335). The devices' history is the model's (assumption 2). Decisions of the spec
here: D21, D22, D23 (92_eei_decisions.md). -/
def Obligations.StoreWordForms : Prop :=
  ∀ (s : State) (m : Mode), Memory.wf s.mem = true →
    ∀ p ∈ [(Instr.sta m, WReg.A), (.stb m, .B), (.stx m, .X)], p.1.wf = true →
    let ea := effAddr m .word s
    let v := getXw ea.2 p.2
    ∃ t, exec p.1 s = .next t ∧
      t = { s with pc := ea.2.pc, flags := t.flags, sram := t.sram, mem := t.mem, devLog := t.devLog } ∧
      FlagsAre t (v == 0) v.msb (flagF s.flags) (flagL s.flags) ∧
      (isWritable s ea.1 = true → readByte t ea.1 = hiByte v) ∧
      (isWritable s (ea.1 + 1) = true → readByte t (ea.1 + 1) = loByte v) ∧
      (isDevice s ea.1 = false → isDevice s (ea.1 + 1) = false → t.devLog = ea.2.devLog) ∧
      ∀ a, isDevice s a = false → (isWritable s ea.1 = true → resolve s a ≠ resolve s ea.1) →
        (isWritable s (ea.1 + 1) = true → resolve s a ≠ resolve s (ea.1 + 1)) →
        (∀ j ∈ m.steppedRegs, a ≠ regAddr s j) → readByte t a = readByte s a

/-! ### Jumps, calls, the stack -/

/-- 46_jump_call_stack.md R360: JMP in modes 1 to 5 goes to the effective address; no flag, no memory and no
register but a stepped index register changes. The devices' history is the model's (assumption 2). Decision of the
spec here: D25 (92_eei_decisions.md). -/
def Obligations.Jump : Prop :=
  ∀ (s : State) (m : Mode), m.isTarget = true →
    let ea := effAddr m .word s
    ∃ t, exec (.jmp m) s = .next t ∧ t.pc = ea.1 ∧ t = { s with pc := t.pc, sram := t.sram, devLog := ea.2.devLog } ∧
      (∀ i, getX t i = getX ea.2 i) ∧
      ∀ a, isDevice s a = false → (∀ j ∈ m.steppedRegs, a ≠ regAddr s j) → readByte t a = readByte s a

/-- 46_jump_call_stack.md R361: JSR in modes 1 to 5: the address first, then X pushed, then X takes the return
address and PC the target. No flag changes. Where the stack word lies outside the register file in RAM, it holds the
old X, S is two lower, and every other byte but X, S and a stepped index register is as before. The devices' history
is the model's (assumption 2). Decision of the spec here: D26 (92_eei_decisions.md). -/
def Obligations.CallSubroutine : Prop :=
  ∀ (s : State) (m : Mode), m.isTarget = true →
    let ea := effAddr m .word s
    let sp := getXw ea.2 .S - 2
    ∃ t, exec (.jsr m) s = .next t ∧ t.pc = ea.1 ∧ getXw t .X = s.pc ∧
      t = { s with pc := t.pc, sram := t.sram, mem := t.mem, devLog := t.devLog } ∧
      (Memory.wf s.mem = true → isRam s sp = true → isRam s (sp + 1) = true →
        getXw t .S = sp ∧ readByte t sp = hiByte (getXw ea.2 .X) ∧ readByte t (sp + 1) = loByte (getXw ea.2 .X) ∧
        t.devLog = ea.2.devLog ∧
        ∀ a, isDevice s a = false → resolve s a ≠ resolve s sp → resolve s a ≠ resolve s (sp + 1) →
          (∀ j ∈ [WReg.X.hi, WReg.X.lo, WReg.S.hi, WReg.S.lo] ++ m.steppedRegs, a ≠ regAddr s j) →
          readByte t a = readByte s a)

/-- 46_jump_call_stack.md R362: JSYS: PC to JSYS_VECTOR, MB to 0, X to the return address; IPL, IE, FLAGS, HALTED
and everything else but S and the five stack bytes unchanged. Where those bytes lie in RAM they hold, from the new S
up, the argument, X high, X low, IPL and MB. The devices' history is the model's (assumption 2). Decision of the
spec here: D27 (92_eei_decisions.md). -/
def Obligations.SystemCall : Prop :=
  ∀ (s : State) (arg : Byte), let sp := getXw s .S - 5
    ∃ t, exec (.jsys arg) s = .next t ∧ getXw t .X = s.pc ∧
      t = { s with pc := s.cfg.jsysVector, mb := 0, sram := t.sram, mem := t.mem, devLog := t.devLog } ∧
      (Memory.wf s.mem = true → (∀ k : Fin 5, isRam s (sp + BitVec.ofNat 16 k) = true) →
        let u := { t with mb := s.mb }
        getXw t .S = sp ∧ t.devLog = s.devLog ∧
        readByte u sp = arg ∧ readByte u (sp + 1) = hiByte (getXw s .X) ∧ readByte u (sp + 2) = loByte (getXw s .X) ∧
        readByte u (sp + 3) = s.ipl.zeroExtend 8 ∧ readByte u (sp + 4) = s.mb.zeroExtend 8 ∧
        ∀ a, isDevice s a = false → (∀ k : Fin 5, resolve s a ≠ resolve s (sp + BitVec.ofNat 16 k)) →
          (∀ j ∈ [WReg.X.hi, WReg.X.lo, WReg.S.hi, WReg.S.lo], a ≠ regAddr s j) → readByte u a = readByte s a)

/-- 46_jump_call_stack.md R363: PUSH of `n + 1` registers from `r`, indices modulo 16: no flag changes; on a stack
in RAM register `r + i` is at the new S plus `i`, as it was at entry, S is `n + 1` lower and every other byte is as
before. The devices' history is the model's (assumption 2). Decision of the spec here: D28 (92_eei_decisions.md). -/
def Obligations.PushRegisters : Prop :=
  ∀ (s : State) (r n : Nibble), let sp := getXw s .S - BitVec.ofNat 16 (n.toNat + 1)
    ∃ t, exec (.push r n) s = .next t ∧ t = { s with sram := t.sram, mem := t.mem, devLog := t.devLog } ∧
      (Memory.wf s.mem = true → (∀ i ≤ n.toNat, isRam s (sp + BitVec.ofNat 16 i) = true) →
        getXw t .S = sp ∧ t.devLog = s.devLog ∧
        (∀ i ≤ n.toNat, readByte t (sp + BitVec.ofNat 16 i) = getX s (r + BitVec.ofNat 4 i)) ∧
        ∀ a, isDevice s a = false → (∀ i ≤ n.toNat, resolve s a ≠ resolve s (sp + BitVec.ofNat 16 i)) →
          a ≠ regAddr s WReg.S.hi → a ≠ regAddr s WReg.S.lo → readByte t a = readByte s a)

/-- 46_jump_call_stack.md R364: POP of `n + 1` registers from `r`: no flag and no memory outside the bank changes;
from a stack outside the register file and the devices, each register of the run takes its byte; a half of S outside
the run takes that half of the advanced pointer; every other register is unchanged. The devices' history is the
model's (assumption 2). Decision of the spec here: D28 (92_eei_decisions.md). -/
def Obligations.PopRegisters : Prop :=
  ∀ (s : State) (r n : Nibble), let sp := getXw s .S
    ∃ t, exec (.pop r n) s = .next t ∧ t = { s with sram := t.sram, devLog := t.devLog } ∧
      (∀ k i, k ≠ s.ipl → sramByte t (regIndex k i) = sramByte s (regIndex k i)) ∧
      ((∀ i ≤ n.toNat, isQuiet s (sp + BitVec.ofNat 16 i) = true) → t.devLog = s.devLog ∧
        ∀ j : Nibble, getX t j =
          if (j - r).toNat ≤ n.toNat then readByte s (sp + BitVec.ofNat 16 (j - r).toNat)
          else if j = WReg.S.hi then hiByte (sp + BitVec.ofNat 16 (n.toNat + 1))
          else if j = WReg.S.lo then loByte (sp + BitVec.ofNat 16 (n.toNat + 1))
          else getX s j)

/-! ### Pairs -/

/-- PUSH then POP of the same run, on a stack in RAM, brings back the whole register file, S included, wherever the
run starts and wraps (46_jump_call_stack.md R363, R364). Decision of the spec here: D28 (92_eei_decisions.md). -/
def Obligations.PushThenPopRestores : Prop :=
  ∀ (s : State) (r n : Nibble), Memory.wf s.mem = true →
    (∀ i ≤ n.toNat, isRam s (getXw s .S - BitVec.ofNat 16 (n.toNat + 1) + BitVec.ofNat 16 i) = true) →
    ∃ t u, exec (.push r n) s = .next t ∧ exec (.pop r n) t = .next u ∧ u = { s with mem := t.mem }

/-- RSR is the inverse of JSR (46_jump_call_stack.md R361, 40_control.md R149): from any state that still has the X
and S of the callee's entry in the same bank, and the two stack bytes reading the same, RSR returns to the
instruction after the JSR with X and S as they were after the address was computed. Decision of the spec here: D26
(92_eei_decisions.md). -/
def Obligations.CallThenReturn : Prop :=
  ∀ (s v : State) (m : Mode), m.isTarget = true → Memory.wf s.mem = true →
    let ea := effAddr m .word s
    let sp := getXw ea.2 .S - 2
    isRam s sp = true → isRam s (sp + 1) = true →
    ∃ t, exec (.jsr m) s = .next t ∧
      (getXw v .X = getXw t .X → getXw v .S = getXw t .S → readByte v sp = readByte t sp →
        readByte v (sp + 1) = readByte t (sp + 1) → isQuiet v sp = true → isQuiet v (sp + 1) = true →
        ∃ u, exec .rsr v = .next u ∧ u.pc = s.pc ∧ getXw u .X = getXw ea.2 .X ∧ getXw u .S = getXw ea.2 .S)

/-- RSYS undoes JSYS (46_jump_call_stack.md R362, 40_control.md R155, 70_reset_and_hazards.md R463): from any state
at the caller's level that still has the X and S of the handler's entry and reads the five frame bytes as JSYS wrote
them, RSYS returns to the caller with X, S, IPL and MB as before the call. Decisions of the spec here: D27, D44
(92_eei_decisions.md). -/
def Obligations.SystemCallThenReturn : Prop :=
  ∀ (s v : State) (arg : Byte), Memory.wf s.mem = true → let sp := getXw s .S - 5
    (∀ k : Fin 5, isRam s (sp + BitVec.ofNat 16 k) = true) →
    ∃ t, exec (.jsys arg) s = .next t ∧
      (v.ipl = s.ipl → getXw v .X = getXw t .X → getXw v .S = getXw t .S →
        (∀ k : Fin 5, isQuiet v (sp + BitVec.ofNat 16 k) = true ∧
          readByte v (sp + BitVec.ofNat 16 k) = readByte { t with mb := s.mb } (sp + BitVec.ofNat 16 k)) →
        ∃ u, exec .rsys v = .next u ∧ u.pc = s.pc ∧ u.ipl = s.ipl ∧ u.mb = s.mb ∧ getXw u .X = getXw s .X ∧
          getXw u .S = getXw s .S)

/-! ### Interrupts -/

/-- 60_exceptions.md R405, with R403, R404, R406 and R407: an interrupt of level `l` modulo 16 is accepted exactly
when IE is 1 and the level is above IPL. Accepted, it saves PC in P and FLAGS in CH[7:4] of the bank left, IPL in
CL[7:4] of the bank entered, each nibble write keeping the low nibble, loads FLAGS from CH[7:4] and PC from P of the
bank entered, and clears HALTED; every other byte of the register file and every other field is unchanged. Not
accepted, it changes nothing. Decisions of the spec here: D3, D32 (92_eei_decisions.md). -/
def Obligations.InterruptEntry : Prop :=
  ∀ (s : State) (l : Nat),
    let k := s.ipl
    let j : Nibble := BitVec.ofNat 4 l
    (s.ie = true ∧ s.ipl.toNat < l % 16 →
      ∃ t, hostAct (.trigger l) s = .next t ∧
        t = { s with
          ipl := j, halted := false, sram := t.sram
          flags := hiNibble (sramByte s (regIndex j 12))
          pc := wordOf (sramByte s (regIndex j 14)) (sramByte s (regIndex j 15)) } ∧
        sramByte t (regIndex k 14) = hiByte s.pc ∧ sramByte t (regIndex k 15) = loByte s.pc ∧
        sramByte t (regIndex k 12) = s.flags ++ loNibble (sramByte s (regIndex k 12)) ∧
        sramByte t (regIndex j 13) = k ++ loNibble (sramByte s (regIndex j 13)) ∧
        ∀ i, i ≠ regIndex k 14 → i ≠ regIndex k 15 → i ≠ regIndex k 12 → i ≠ regIndex j 13 →
          sramByte t i = sramByte s i) ∧
    (¬(s.ie = true ∧ s.ipl.toNat < l % 16) → hostAct (.trigger l) s = .next s)

/-- 60_exceptions.md R409, R410: a handler that ends at its own level, with the previous level in its CL[7:4] and
the interrupted bank's P and CH as the entry left them, returns by RI or RIM to exactly the PC, FLAGS and IPL that
were interrupted, in which the interrupted bank is the visible one. Decisions of the spec here: D3,
D32, D33 (92_eei_decisions.md). -/
def Obligations.InterruptReturnRestores : Prop :=
  ∀ (s v : State) (l : Nat), s.ie = true → s.ipl.toNat < l % 16 →
    ∃ t, hostAct (.trigger l) s = .next t ∧
      (v.ipl = t.ipl → hiNibble (sramByte v (regIndex t.ipl 13)) = hiNibble (sramByte t (regIndex t.ipl 13)) →
        (∀ i : Nibble, 12 ≤ i.toNat → sramByte v (regIndex s.ipl i) = sramByte t (regIndex s.ipl i)) →
        ∀ i ∈ [Instr.ri, Instr.rim], exec i v = .next { v with pc := s.pc, flags := s.flags, ipl := s.ipl })

/-- 60_exceptions.md R410, with R403, R405 and R409: nesting. An interrupt, then a higher one, then two returns with
nothing between: PC, FLAGS, IPL and the running state are back, IE and MB never changed, and only the saved contexts
in C and P of the three banks differ: no byte register of another bank, none below C in any bank, and in the three
only the nibbles and words that the two entries save. Decisions of the spec here: D3, D32, D33
(92_eei_decisions.md). -/
def Obligations.NestedInterruptsUnwind : Prop :=
  ∀ (s : State) (l h : Nat), s.ie = true → s.ipl.toNat < l % 16 → l % 16 < h % 16 →
    let j : Nibble := BitVec.ofNat 4 l
    let m : Nibble := BitVec.ofNat 4 h
    ∃ t u v w, hostAct (.trigger l) s = .next t ∧ hostAct (.trigger h) t = .next u ∧ exec .ri u = .next v ∧
      exec .rim v = .next w ∧ v.pc = t.pc ∧ v.flags = t.flags ∧ v.ipl = t.ipl ∧
      w = { s with halted := false, sram := w.sram } ∧
      (∀ k i : Nibble, k ≠ s.ipl → k ≠ j → k ≠ m → sramByte w (regIndex k i) = sramByte s (regIndex k i)) ∧
      (∀ k i : Nibble, i.toNat < 12 → sramByte w (regIndex k i) = sramByte s (regIndex k i)) ∧
      (∀ i : Nibble, i ≠ 12 → i ≠ 14 → i ≠ 15 → sramByte w (regIndex s.ipl i) = sramByte s (regIndex s.ipl i)) ∧
      (∀ i : Nibble, i ≠ 13 → sramByte w (regIndex m i) = sramByte s (regIndex m i)) ∧
      ∀ k ∈ [s.ipl, j, m], ∀ i ∈ [(12 : Nibble), 13],
        loNibble (sramByte w (regIndex k i)) = loNibble (sramByte s (regIndex k i))

/-! ### Whole-machine rules -/

/-- 10_state.md R31: only EI, DI and reset change IE. Decision of the spec here: D32 (92_eei_decisions.md). -/
def Obligations.InterruptEnableOwners : Prop :=
  (∀ s t : State, step s = .next t → t.ie ≠ s.ie →
    s.halted = false ∧ ((fetchInstr s).1 = .ei ∧ t.ie = true ∨ (fetchInstr s).1 = .di ∧ t.ie = false)) ∧
  (∀ (a : HostAction) (s t : State), hostAct a s = .next t → t.ie ≠ s.ie → a = .reset ∧ t.ie = false)

/-- 10_state.md R32: HALTED is set by HLT and cleared by reset and by an accepted interrupt, and by nothing else; while it
is 1 a step does nothing and reports false. An interrupt is accepted when IE is 1 and its level modulo 16 is above IPL
(60_exceptions.md R402, R403; the call as a host action is assumption 8). Decision of the spec here: D32
(92_eei_decisions.md). -/
def Obligations.HaltedOwners : Prop :=
  (∀ s t : State, step s = .next t → (t.halted = true ↔ s.halted = true ∨ (fetchInstr s).1 = .hlt)) ∧
  (∀ s : State, s.halted = true → step s = .next s ∧ report s = some (.executed false)) ∧
  (∀ (a : HostAction) (s t : State), hostAct a s = .next t →
    (t.halted = true ↔
      s.halted = true ∧ a ≠ .reset ∧ ¬∃ l, a = .trigger l ∧ s.ie = true ∧ s.ipl.toNat < l % 16))

/-- 10_state.md R33, R30: MB is written by JSYS, which makes it 0, by RSYS and by reset, and by nothing else; IPL is
written by RI, RIM, RSYS, an accepted interrupt and reset, and by nothing else; an interrupt that changes IPL found IE
at 1 and a lower IPL, and makes it its level modulo 16 (60_exceptions.md R402, R403). Decision of the spec here: D32
(92_eei_decisions.md). -/
def Obligations.MmuBaseAndPriorityOwners : Prop :=
  (∀ s t : State, step s = .next t → t.mb ≠ s.mb →
    (∃ arg, (fetchInstr s).1 = .jsys arg ∧ t.mb = 0) ∨ (fetchInstr s).1 = .rsys) ∧
  (∀ s t : State, step s = .next t → t.ipl ≠ s.ipl → (fetchInstr s).1 ∈ [Instr.ri, .rim, .rsys]) ∧
  (∀ (a : HostAction) (s t : State), hostAct a s = .next t → t.mb ≠ s.mb → a = .reset ∧ t.mb = 0) ∧
  (∀ (a : HostAction) (s t : State), hostAct a s = .next t → t.ipl ≠ s.ipl →
    (a = .reset ∧ t.ipl = 0) ∨ ∃ l, a = .trigger l ∧ s.ie = true ∧ s.ipl.toNat < t.ipl.toNat ∧ t.ipl.toNat = l % 16)

/-- 10_state.md R35, R34: the page tables are written by LDMMU, its one bank only, and reset; the DMA registers by
LDDMA, LDDMC, SDMAM, EDMA, DDMA and reset. Decision of the spec here: D17 (92_eei_decisions.md). -/
def Obligations.PageTableAndDmaOwners : Prop :=
  (∀ s t : State, step s = .next t → ∀ b e, ptEntry t b e ≠ ptEntry s b e → ∃ a, (fetchInstr s).1 = .ldmmu b a) ∧
  (∀ s t : State, step s = .next t → t.dma ≠ s.dma →
    (∃ r, (fetchInstr s).1 = .lddma r ∧ t.dma.count = s.dma.count) ∨
    (∃ r, (fetchInstr s).1 = .lddmc r ∧ t.dma.addr = s.dma.addr) ∨ (∃ m, (fetchInstr s).1 = .sdmam m) ∨
    (fetchInstr s).1 = .edma ∨ (fetchInstr s).1 = .ddma) ∧
  (∀ (a : HostAction) (s t : State), hostAct a s = .next t → t.pt ≠ s.pt ∨ t.dma ≠ s.dma → a = .reset)

/-- 10_state.md R28: FAULT is changed only by the fault-flag instructions, the subtractions, the left shifts and the
returns from interrupt; LINK only by the link-flag instructions, the additions, the subtractions, the shifts, the
rotates and the returns from interrupt. -/
def Obligations.FaultAndLinkOwners : Prop :=
  (∀ s t : State, step s = .next t → flagF t.flags ≠ flagF s.flags →
    (fetchInstr s).1 ∈ [Instr.sf, .rf, .cf, .ri, .rim, .sabb, .sab, .slab, .sla] ∨
    (∃ a b, (fetchInstr s).1 = .subb a b ∨ (fetchInstr s).1 = .slrb a b) ∨
    (∃ a b, (fetchInstr s).1 = .sub a b) ∨ (∃ r n, (fetchInstr s).1 = .slr r n)) ∧
  (∀ s t : State, step s = .next t → flagL t.flags ≠ flagL s.flags →
    (fetchInstr s).1 ∈ [Instr.sl, .rl, .cl, .ri, .rim, .sabb, .sab, .aabb, .aab, .srab, .slab, .sra, .sla] ∨
    (∃ a b, (fetchInstr s).1 = .subb a b ∨ (fetchInstr s).1 = .addb a b ∨ (fetchInstr s).1 = .srrb a b ∨
      (fetchInstr s).1 = .slrb a b ∨ (fetchInstr s).1 = .rrrb a b ∨ (fetchInstr s).1 = .rlrb a b) ∨
    (∃ a b, (fetchInstr s).1 = .sub a b ∨ (fetchInstr s).1 = .add a b) ∨
    (∃ r n, (fetchInstr s).1 = .srr r n ∨ (fetchInstr s).1 = .slr r n ∨ (fetchInstr s).1 = .rrr r n ∨
      (fetchInstr s).1 = .rlr r n))

/-! ### Encodings with no instruction -/

/-- 45_load_store.md R317, 46_jump_call_stack.md R365, 60_exceptions.md R401: modes 6 and 7, and the jump submodes 0
and 7, end the step with Fatal(InvalidAddressingMode). Decisions of the spec here: D19, D25, D29, D30
(92_eei_decisions.md). -/
def Obligations.InvalidModesStop : Prop :=
  ∀ (s : State),
    ∀ i ∈ [Instr.ldxMode6, .ldxMode7, .stxMode6, .stxMode7, .ldabMode6, .ldabMode7, .ldaMode6, .ldaMode7,
        .stabMode6, .stabMode7, .staMode6, .staMode7, .ldbbMode6, .ldbbMode7, .ldbMode6, .ldbMode7, .stbbMode6,
        .stbbMode7, .stbMode6, .stbMode7, .jmpLiteral, .jumpSub7, .jsrLiteral],
      exec i s = .fault .invalidAddressingMode

/-- 45_load_store.md R316, 43_mmu_dma_block.md R240, 60_exceptions.md R401: a mode-5 mode byte with mm = 3 ends the
step with Fatal(InvalidIndexedSubmode), whatever its other bits; LDMMU and STMMU with bank 8 to 15 end it with
Fatal(MmuBankOutOfRange). Decisions of the spec here: D16, D20, D29, D30 (92_eei_decisions.md). -/
def Obligations.InvalidSubmodesAndBanksStop : Prop :=
  ∀ (s : State) (h : BitVec 6) (k : BitVec 3),
    (∀ i ∈ [Instr.ldxMm3 h, .stxMm3 h, .ldabMm3 h, .ldaMm3 h, .stabMm3 h, .staMm3 h, .ldbbMm3 h, .ldbMm3 h,
        .stbbMm3 h, .stbMm3 h, .jmpMm3 h, .jsrMm3 h],
      exec i s = .fault .invalidIndexedSubmode) ∧
    (∀ i ∈ [Instr.ldmmuBadBank k, .stmmuBadBank k], exec i s = .fault .mmuBankOutOfRange)

/-- 30_encoding.md R118, R119, 43_mmu_dma_block.md R243, R253, 60_exceptions.md R401: the reserved opcodes and
sub-opcodes, a non-zero pad and an odd word-register selector end the step with Fatal(ReservedEncoding). Decisions
of the spec here: D15, D17, D29, D30 (92_eei_decisions.md). -/
def Obligations.ReservedEncodingsStop : Prop :=
  ∀ (s : State) (k : BitVec 3) (a : Nibble) (b : Nibble) (w : WReg) (d : Bool) (e : Bool) (st : IdxStep),
    ∀ i ∈ [Instr.inrOdd k a, .dcrOdd k a, .clrOdd k a, .ivrOdd k a, .srrOdd k a, .slrOdd k a, .rrrOdd k a,
        .rlrOdd k a, .reserved2E a b, .lddmaOdd k, .stdmaOdd k, .lddmcOdd k, .stdmcOdd k, .edmaPad a, .ddmaPad a,
        .reserved2FSub5 a, .reserved2FSub8 a k, .reserved46, .reserved47, .reserved56, .reserved57, .addOddSrc k a,
        .addOddDst w k, .subOddSrc k a, .subOddDst w k, .andOddSrc k a, .andOddDst w k, .oriOddSrc k a,
        .oriOddDst w k, .oreOddSrc k a, .oreOddDst w k, .xfrOddSrc k a, .xfrOddDst w k, .ldxOddIndex k d e st,
        .stxOddIndex k d e st, .ldabOddIndex k d e st, .ldaOddIndex k d e st, .stabOddIndex k d e st,
        .staOddIndex k d e st, .ldbbOddIndex k d e st, .ldbOddIndex k d e st, .stbbOddIndex k d e st,
        .stbOddIndex k d e st, .jmpOddIndex k d e st, .jsrOddIndex k d e st],
      exec i s = .fault .reservedEncoding
end

