-- ==== Sys2Proof/Laws/State.lean ====
section
/-! SUPPORT. One lemma per field per update: what each operation of the machine leaves alone in State. -/

namespace Sys2Proof.Laws

open Sys2Proof.Machine

@[simp] theorem setSramByte_pc (s : State) (i v : Byte) : (setSramByte s i v).pc = s.pc := rfl
@[simp] theorem setSramByte_flags (s : State) (i v : Byte) : (setSramByte s i v).flags = s.flags := rfl
@[simp] theorem setSramByte_ipl (s : State) (i v : Byte) : (setSramByte s i v).ipl = s.ipl := rfl
@[simp] theorem setSramByte_ie (s : State) (i v : Byte) : (setSramByte s i v).ie = s.ie := rfl
@[simp] theorem setSramByte_halted (s : State) (i v : Byte) : (setSramByte s i v).halted = s.halted := rfl
@[simp] theorem setSramByte_mb (s : State) (i v : Byte) : (setSramByte s i v).mb = s.mb := rfl
@[simp] theorem setSramByte_dma (s : State) (i v : Byte) : (setSramByte s i v).dma = s.dma := rfl
@[simp] theorem setSramByte_pt (s : State) (i v : Byte) : (setSramByte s i v).pt = s.pt := rfl
@[simp] theorem setSramByte_opcount (s : State) (i v : Byte) : (setSramByte s i v).opcount = s.opcount := rfl
@[simp] theorem setSramByte_cfg (s : State) (i v : Byte) : (setSramByte s i v).cfg = s.cfg := rfl
@[simp] theorem setSramByte_sw (s : State) (i v : Byte) : (setSramByte s i v).sw = s.sw := rfl
@[simp] theorem setSramByte_regions (s : State) (i v : Byte) : (setSramByte s i v).regions = s.regions := rfl
@[simp] theorem setSramByte_mem (s : State) (i v : Byte) : (setSramByte s i v).mem = s.mem := rfl
@[simp] theorem setSramByte_devLog (s : State) (i v : Byte) : (setSramByte s i v).devLog = s.devLog := rfl

@[simp] theorem setX_pc (s : State) (i : Nibble) (v : Byte) : (setX s i v).pc = s.pc := rfl
@[simp] theorem setX_flags (s : State) (i : Nibble) (v : Byte) : (setX s i v).flags = s.flags := rfl
@[simp] theorem setX_ipl (s : State) (i : Nibble) (v : Byte) : (setX s i v).ipl = s.ipl := rfl
@[simp] theorem setX_ie (s : State) (i : Nibble) (v : Byte) : (setX s i v).ie = s.ie := rfl
@[simp] theorem setX_halted (s : State) (i : Nibble) (v : Byte) : (setX s i v).halted = s.halted := rfl
@[simp] theorem setX_mb (s : State) (i : Nibble) (v : Byte) : (setX s i v).mb = s.mb := rfl
@[simp] theorem setX_dma (s : State) (i : Nibble) (v : Byte) : (setX s i v).dma = s.dma := rfl
@[simp] theorem setX_pt (s : State) (i : Nibble) (v : Byte) : (setX s i v).pt = s.pt := rfl
@[simp] theorem setX_opcount (s : State) (i : Nibble) (v : Byte) : (setX s i v).opcount = s.opcount := rfl
@[simp] theorem setX_cfg (s : State) (i : Nibble) (v : Byte) : (setX s i v).cfg = s.cfg := rfl
@[simp] theorem setX_sw (s : State) (i : Nibble) (v : Byte) : (setX s i v).sw = s.sw := rfl
@[simp] theorem setX_regions (s : State) (i : Nibble) (v : Byte) : (setX s i v).regions = s.regions := rfl
@[simp] theorem setX_mem (s : State) (i : Nibble) (v : Byte) : (setX s i v).mem = s.mem := rfl
@[simp] theorem setX_devLog (s : State) (i : Nibble) (v : Byte) : (setX s i v).devLog = s.devLog := rfl

@[simp] theorem setXw_pc (s : State) (r : WReg) (v : Word) : (setXw s r v).pc = s.pc := rfl
@[simp] theorem setXw_flags (s : State) (r : WReg) (v : Word) : (setXw s r v).flags = s.flags := rfl
@[simp] theorem setXw_ipl (s : State) (r : WReg) (v : Word) : (setXw s r v).ipl = s.ipl := rfl
@[simp] theorem setXw_ie (s : State) (r : WReg) (v : Word) : (setXw s r v).ie = s.ie := rfl
@[simp] theorem setXw_halted (s : State) (r : WReg) (v : Word) : (setXw s r v).halted = s.halted := rfl
@[simp] theorem setXw_mb (s : State) (r : WReg) (v : Word) : (setXw s r v).mb = s.mb := rfl
@[simp] theorem setXw_dma (s : State) (r : WReg) (v : Word) : (setXw s r v).dma = s.dma := rfl
@[simp] theorem setXw_pt (s : State) (r : WReg) (v : Word) : (setXw s r v).pt = s.pt := rfl
@[simp] theorem setXw_opcount (s : State) (r : WReg) (v : Word) : (setXw s r v).opcount = s.opcount := rfl
@[simp] theorem setXw_cfg (s : State) (r : WReg) (v : Word) : (setXw s r v).cfg = s.cfg := rfl
@[simp] theorem setXw_sw (s : State) (r : WReg) (v : Word) : (setXw s r v).sw = s.sw := rfl
@[simp] theorem setXw_regions (s : State) (r : WReg) (v : Word) : (setXw s r v).regions = s.regions := rfl
@[simp] theorem setXw_mem (s : State) (r : WReg) (v : Word) : (setXw s r v).mem = s.mem := rfl
@[simp] theorem setXw_devLog (s : State) (r : WReg) (v : Word) : (setXw s r v).devLog = s.devLog := rfl

@[simp] theorem setPtEntry_pc (s : State) (b : BitVec 3) (e : BitVec 5) (v : Byte) : (setPtEntry s b e v).pc = s.pc := rfl
@[simp] theorem setPtEntry_flags (s : State) (b : BitVec 3) (e : BitVec 5) (v : Byte) : (setPtEntry s b e v).flags = s.flags := rfl
@[simp] theorem setPtEntry_ipl (s : State) (b : BitVec 3) (e : BitVec 5) (v : Byte) : (setPtEntry s b e v).ipl = s.ipl := rfl
@[simp] theorem setPtEntry_ie (s : State) (b : BitVec 3) (e : BitVec 5) (v : Byte) : (setPtEntry s b e v).ie = s.ie := rfl
@[simp] theorem setPtEntry_halted (s : State) (b : BitVec 3) (e : BitVec 5) (v : Byte) : (setPtEntry s b e v).halted = s.halted := rfl
@[simp] theorem setPtEntry_mb (s : State) (b : BitVec 3) (e : BitVec 5) (v : Byte) : (setPtEntry s b e v).mb = s.mb := rfl
@[simp] theorem setPtEntry_dma (s : State) (b : BitVec 3) (e : BitVec 5) (v : Byte) : (setPtEntry s b e v).dma = s.dma := rfl
@[simp] theorem setPtEntry_sram (s : State) (b : BitVec 3) (e : BitVec 5) (v : Byte) : (setPtEntry s b e v).sram = s.sram := rfl
@[simp] theorem setPtEntry_opcount (s : State) (b : BitVec 3) (e : BitVec 5) (v : Byte) : (setPtEntry s b e v).opcount = s.opcount := rfl
@[simp] theorem setPtEntry_cfg (s : State) (b : BitVec 3) (e : BitVec 5) (v : Byte) : (setPtEntry s b e v).cfg = s.cfg := rfl
@[simp] theorem setPtEntry_sw (s : State) (b : BitVec 3) (e : BitVec 5) (v : Byte) : (setPtEntry s b e v).sw = s.sw := rfl
@[simp] theorem setPtEntry_regions (s : State) (b : BitVec 3) (e : BitVec 5) (v : Byte) : (setPtEntry s b e v).regions = s.regions := rfl
@[simp] theorem setPtEntry_mem (s : State) (b : BitVec 3) (e : BitVec 5) (v : Byte) : (setPtEntry s b e v).mem = s.mem := rfl
@[simp] theorem setPtEntry_devLog (s : State) (b : BitVec 3) (e : BitVec 5) (v : Byte) : (setPtEntry s b e v).devLog = s.devLog := rfl

@[simp] theorem physWrite_pc (s : State) (p : PAddr) (v : Byte) : (physWrite s p v).pc = s.pc := by
  unfold physWrite; split <;> rfl
@[simp] theorem physWrite_flags (s : State) (p : PAddr) (v : Byte) : (physWrite s p v).flags = s.flags := by
  unfold physWrite; split <;> rfl
@[simp] theorem physWrite_ipl (s : State) (p : PAddr) (v : Byte) : (physWrite s p v).ipl = s.ipl := by
  unfold physWrite; split <;> rfl
@[simp] theorem physWrite_ie (s : State) (p : PAddr) (v : Byte) : (physWrite s p v).ie = s.ie := by
  unfold physWrite; split <;> rfl
@[simp] theorem physWrite_halted (s : State) (p : PAddr) (v : Byte) : (physWrite s p v).halted = s.halted := by
  unfold physWrite; split <;> rfl
@[simp] theorem physWrite_mb (s : State) (p : PAddr) (v : Byte) : (physWrite s p v).mb = s.mb := by
  unfold physWrite; split <;> rfl
@[simp] theorem physWrite_dma (s : State) (p : PAddr) (v : Byte) : (physWrite s p v).dma = s.dma := by
  unfold physWrite; split <;> rfl
@[simp] theorem physWrite_sram (s : State) (p : PAddr) (v : Byte) : (physWrite s p v).sram = s.sram := by
  unfold physWrite; split <;> rfl
@[simp] theorem physWrite_pt (s : State) (p : PAddr) (v : Byte) : (physWrite s p v).pt = s.pt := by
  unfold physWrite; split <;> rfl
@[simp] theorem physWrite_opcount (s : State) (p : PAddr) (v : Byte) : (physWrite s p v).opcount = s.opcount := by
  unfold physWrite; split <;> rfl
@[simp] theorem physWrite_cfg (s : State) (p : PAddr) (v : Byte) : (physWrite s p v).cfg = s.cfg := by
  unfold physWrite; split <;> rfl
@[simp] theorem physWrite_sw (s : State) (p : PAddr) (v : Byte) : (physWrite s p v).sw = s.sw := by
  unfold physWrite; split <;> rfl
@[simp] theorem physWrite_regions (s : State) (p : PAddr) (v : Byte) : (physWrite s p v).regions = s.regions := by
  unfold physWrite; split <;> rfl

@[simp] theorem physReadDone_pc (s : State) (p : PAddr) : (physReadDone s p).pc = s.pc := by
  unfold physReadDone; split <;> rfl
@[simp] theorem physReadDone_flags (s : State) (p : PAddr) : (physReadDone s p).flags = s.flags := by
  unfold physReadDone; split <;> rfl
@[simp] theorem physReadDone_ipl (s : State) (p : PAddr) : (physReadDone s p).ipl = s.ipl := by
  unfold physReadDone; split <;> rfl
@[simp] theorem physReadDone_ie (s : State) (p : PAddr) : (physReadDone s p).ie = s.ie := by
  unfold physReadDone; split <;> rfl
@[simp] theorem physReadDone_halted (s : State) (p : PAddr) : (physReadDone s p).halted = s.halted := by
  unfold physReadDone; split <;> rfl
@[simp] theorem physReadDone_mb (s : State) (p : PAddr) : (physReadDone s p).mb = s.mb := by
  unfold physReadDone; split <;> rfl
@[simp] theorem physReadDone_dma (s : State) (p : PAddr) : (physReadDone s p).dma = s.dma := by
  unfold physReadDone; split <;> rfl
@[simp] theorem physReadDone_sram (s : State) (p : PAddr) : (physReadDone s p).sram = s.sram := by
  unfold physReadDone; split <;> rfl
@[simp] theorem physReadDone_pt (s : State) (p : PAddr) : (physReadDone s p).pt = s.pt := by
  unfold physReadDone; split <;> rfl
@[simp] theorem physReadDone_opcount (s : State) (p : PAddr) : (physReadDone s p).opcount = s.opcount := by
  unfold physReadDone; split <;> rfl
@[simp] theorem physReadDone_cfg (s : State) (p : PAddr) : (physReadDone s p).cfg = s.cfg := by
  unfold physReadDone; split <;> rfl
@[simp] theorem physReadDone_sw (s : State) (p : PAddr) : (physReadDone s p).sw = s.sw := by
  unfold physReadDone; split <;> rfl
@[simp] theorem physReadDone_regions (s : State) (p : PAddr) : (physReadDone s p).regions = s.regions := by
  unfold physReadDone; split <;> rfl
@[simp] theorem physReadDone_mem (s : State) (p : PAddr) : (physReadDone s p).mem = s.mem := by
  unfold physReadDone; split <;> rfl

@[simp] theorem readDone_pc (s : State) (a : Word) : (readDone s a).pc = s.pc := by
  unfold readDone; split <;> simp
@[simp] theorem readDone_flags (s : State) (a : Word) : (readDone s a).flags = s.flags := by
  unfold readDone; split <;> simp
@[simp] theorem readDone_ipl (s : State) (a : Word) : (readDone s a).ipl = s.ipl := by
  unfold readDone; split <;> simp
@[simp] theorem readDone_ie (s : State) (a : Word) : (readDone s a).ie = s.ie := by
  unfold readDone; split <;> simp
@[simp] theorem readDone_halted (s : State) (a : Word) : (readDone s a).halted = s.halted := by
  unfold readDone; split <;> simp
@[simp] theorem readDone_mb (s : State) (a : Word) : (readDone s a).mb = s.mb := by
  unfold readDone; split <;> simp
@[simp] theorem readDone_dma (s : State) (a : Word) : (readDone s a).dma = s.dma := by
  unfold readDone; split <;> simp
@[simp] theorem readDone_sram (s : State) (a : Word) : (readDone s a).sram = s.sram := by
  unfold readDone; split <;> simp
@[simp] theorem readDone_pt (s : State) (a : Word) : (readDone s a).pt = s.pt := by
  unfold readDone; split <;> simp
@[simp] theorem readDone_opcount (s : State) (a : Word) : (readDone s a).opcount = s.opcount := by
  unfold readDone; split <;> simp
@[simp] theorem readDone_cfg (s : State) (a : Word) : (readDone s a).cfg = s.cfg := by
  unfold readDone; split <;> simp
@[simp] theorem readDone_sw (s : State) (a : Word) : (readDone s a).sw = s.sw := by
  unfold readDone; split <;> simp
@[simp] theorem readDone_regions (s : State) (a : Word) : (readDone s a).regions = s.regions := by
  unfold readDone; split <;> simp
@[simp] theorem readDone_mem (s : State) (a : Word) : (readDone s a).mem = s.mem := by
  unfold readDone; split <;> simp

@[simp] theorem memRead8_pc (s : State) (a : Word) : ((memRead8 a s).2).pc = s.pc := by simp [memRead8]
@[simp] theorem memRead8_flags (s : State) (a : Word) : ((memRead8 a s).2).flags = s.flags := by simp [memRead8]
@[simp] theorem memRead8_ipl (s : State) (a : Word) : ((memRead8 a s).2).ipl = s.ipl := by simp [memRead8]
@[simp] theorem memRead8_ie (s : State) (a : Word) : ((memRead8 a s).2).ie = s.ie := by simp [memRead8]
@[simp] theorem memRead8_halted (s : State) (a : Word) : ((memRead8 a s).2).halted = s.halted := by simp [memRead8]
@[simp] theorem memRead8_mb (s : State) (a : Word) : ((memRead8 a s).2).mb = s.mb := by simp [memRead8]
@[simp] theorem memRead8_dma (s : State) (a : Word) : ((memRead8 a s).2).dma = s.dma := by simp [memRead8]
@[simp] theorem memRead8_sram (s : State) (a : Word) : ((memRead8 a s).2).sram = s.sram := by simp [memRead8]
@[simp] theorem memRead8_pt (s : State) (a : Word) : ((memRead8 a s).2).pt = s.pt := by simp [memRead8]
@[simp] theorem memRead8_opcount (s : State) (a : Word) : ((memRead8 a s).2).opcount = s.opcount := by simp [memRead8]
@[simp] theorem memRead8_cfg (s : State) (a : Word) : ((memRead8 a s).2).cfg = s.cfg := by simp [memRead8]
@[simp] theorem memRead8_sw (s : State) (a : Word) : ((memRead8 a s).2).sw = s.sw := by simp [memRead8]
@[simp] theorem memRead8_regions (s : State) (a : Word) : ((memRead8 a s).2).regions = s.regions := by simp [memRead8]
@[simp] theorem memRead8_mem (s : State) (a : Word) : ((memRead8 a s).2).mem = s.mem := by simp [memRead8]

@[simp] theorem memRead16_pc (s : State) (a : Word) : ((memRead16 a s).2).pc = s.pc := by simp [memRead16]
@[simp] theorem memRead16_flags (s : State) (a : Word) : ((memRead16 a s).2).flags = s.flags := by simp [memRead16]
@[simp] theorem memRead16_ipl (s : State) (a : Word) : ((memRead16 a s).2).ipl = s.ipl := by simp [memRead16]
@[simp] theorem memRead16_ie (s : State) (a : Word) : ((memRead16 a s).2).ie = s.ie := by simp [memRead16]
@[simp] theorem memRead16_halted (s : State) (a : Word) : ((memRead16 a s).2).halted = s.halted := by simp [memRead16]
@[simp] theorem memRead16_mb (s : State) (a : Word) : ((memRead16 a s).2).mb = s.mb := by simp [memRead16]
@[simp] theorem memRead16_dma (s : State) (a : Word) : ((memRead16 a s).2).dma = s.dma := by simp [memRead16]
@[simp] theorem memRead16_sram (s : State) (a : Word) : ((memRead16 a s).2).sram = s.sram := by simp [memRead16]
@[simp] theorem memRead16_pt (s : State) (a : Word) : ((memRead16 a s).2).pt = s.pt := by simp [memRead16]
@[simp] theorem memRead16_opcount (s : State) (a : Word) : ((memRead16 a s).2).opcount = s.opcount := by simp [memRead16]
@[simp] theorem memRead16_cfg (s : State) (a : Word) : ((memRead16 a s).2).cfg = s.cfg := by simp [memRead16]
@[simp] theorem memRead16_sw (s : State) (a : Word) : ((memRead16 a s).2).sw = s.sw := by simp [memRead16]
@[simp] theorem memRead16_regions (s : State) (a : Word) : ((memRead16 a s).2).regions = s.regions := by simp [memRead16]
@[simp] theorem memRead16_mem (s : State) (a : Word) : ((memRead16 a s).2).mem = s.mem := by simp [memRead16]

@[simp] theorem memWrite8_pc (s : State) (a : Word) (v : Byte) : (memWrite8 a v s).pc = s.pc := by
  unfold memWrite8; split <;> simp
@[simp] theorem memWrite8_flags (s : State) (a : Word) (v : Byte) : (memWrite8 a v s).flags = s.flags := by
  unfold memWrite8; split <;> simp
@[simp] theorem memWrite8_ipl (s : State) (a : Word) (v : Byte) : (memWrite8 a v s).ipl = s.ipl := by
  unfold memWrite8; split <;> simp
@[simp] theorem memWrite8_ie (s : State) (a : Word) (v : Byte) : (memWrite8 a v s).ie = s.ie := by
  unfold memWrite8; split <;> simp
@[simp] theorem memWrite8_halted (s : State) (a : Word) (v : Byte) : (memWrite8 a v s).halted = s.halted := by
  unfold memWrite8; split <;> simp
@[simp] theorem memWrite8_mb (s : State) (a : Word) (v : Byte) : (memWrite8 a v s).mb = s.mb := by
  unfold memWrite8; split <;> simp
@[simp] theorem memWrite8_dma (s : State) (a : Word) (v : Byte) : (memWrite8 a v s).dma = s.dma := by
  unfold memWrite8; split <;> simp
@[simp] theorem memWrite8_pt (s : State) (a : Word) (v : Byte) : (memWrite8 a v s).pt = s.pt := by
  unfold memWrite8; split <;> simp
@[simp] theorem memWrite8_opcount (s : State) (a : Word) (v : Byte) : (memWrite8 a v s).opcount = s.opcount := by
  unfold memWrite8; split <;> simp
@[simp] theorem memWrite8_cfg (s : State) (a : Word) (v : Byte) : (memWrite8 a v s).cfg = s.cfg := by
  unfold memWrite8; split <;> simp
@[simp] theorem memWrite8_sw (s : State) (a : Word) (v : Byte) : (memWrite8 a v s).sw = s.sw := by
  unfold memWrite8; split <;> simp
@[simp] theorem memWrite8_regions (s : State) (a : Word) (v : Byte) : (memWrite8 a v s).regions = s.regions := by
  unfold memWrite8; split <;> simp

@[simp] theorem memWrite16_pc (s : State) (a v : Word) : (memWrite16 a v s).pc = s.pc := by simp [memWrite16]
@[simp] theorem memWrite16_flags (s : State) (a v : Word) : (memWrite16 a v s).flags = s.flags := by simp [memWrite16]
@[simp] theorem memWrite16_ipl (s : State) (a v : Word) : (memWrite16 a v s).ipl = s.ipl := by simp [memWrite16]
@[simp] theorem memWrite16_ie (s : State) (a v : Word) : (memWrite16 a v s).ie = s.ie := by simp [memWrite16]
@[simp] theorem memWrite16_halted (s : State) (a v : Word) : (memWrite16 a v s).halted = s.halted := by simp [memWrite16]
@[simp] theorem memWrite16_mb (s : State) (a v : Word) : (memWrite16 a v s).mb = s.mb := by simp [memWrite16]
@[simp] theorem memWrite16_dma (s : State) (a v : Word) : (memWrite16 a v s).dma = s.dma := by simp [memWrite16]
@[simp] theorem memWrite16_pt (s : State) (a v : Word) : (memWrite16 a v s).pt = s.pt := by simp [memWrite16]
@[simp] theorem memWrite16_opcount (s : State) (a v : Word) : (memWrite16 a v s).opcount = s.opcount := by simp [memWrite16]
@[simp] theorem memWrite16_cfg (s : State) (a v : Word) : (memWrite16 a v s).cfg = s.cfg := by simp [memWrite16]
@[simp] theorem memWrite16_sw (s : State) (a v : Word) : (memWrite16 a v s).sw = s.sw := by simp [memWrite16]
@[simp] theorem memWrite16_regions (s : State) (a v : Word) : (memWrite16 a v s).regions = s.regions := by simp [memWrite16]

@[simp] theorem fetch8_flags (s : State) : ((fetch8 s).2).flags = s.flags := by simp [fetch8]
@[simp] theorem fetch8_ipl (s : State) : ((fetch8 s).2).ipl = s.ipl := by simp [fetch8]
@[simp] theorem fetch8_ie (s : State) : ((fetch8 s).2).ie = s.ie := by simp [fetch8]
@[simp] theorem fetch8_halted (s : State) : ((fetch8 s).2).halted = s.halted := by simp [fetch8]
@[simp] theorem fetch8_mb (s : State) : ((fetch8 s).2).mb = s.mb := by simp [fetch8]
@[simp] theorem fetch8_dma (s : State) : ((fetch8 s).2).dma = s.dma := by simp [fetch8]
@[simp] theorem fetch8_sram (s : State) : ((fetch8 s).2).sram = s.sram := by simp [fetch8]
@[simp] theorem fetch8_pt (s : State) : ((fetch8 s).2).pt = s.pt := by simp [fetch8]
@[simp] theorem fetch8_opcount (s : State) : ((fetch8 s).2).opcount = s.opcount := by simp [fetch8]
@[simp] theorem fetch8_cfg (s : State) : ((fetch8 s).2).cfg = s.cfg := by simp [fetch8]
@[simp] theorem fetch8_sw (s : State) : ((fetch8 s).2).sw = s.sw := by simp [fetch8]
@[simp] theorem fetch8_regions (s : State) : ((fetch8 s).2).regions = s.regions := by simp [fetch8]
@[simp] theorem fetch8_mem (s : State) : ((fetch8 s).2).mem = s.mem := by simp [fetch8]

@[simp] theorem push8_pc (s : State) (v : Byte) : (push8 v s).pc = s.pc := by simp [push8]
@[simp] theorem push8_flags (s : State) (v : Byte) : (push8 v s).flags = s.flags := by simp [push8]
@[simp] theorem push8_ipl (s : State) (v : Byte) : (push8 v s).ipl = s.ipl := by simp [push8]
@[simp] theorem push8_ie (s : State) (v : Byte) : (push8 v s).ie = s.ie := by simp [push8]
@[simp] theorem push8_halted (s : State) (v : Byte) : (push8 v s).halted = s.halted := by simp [push8]
@[simp] theorem push8_mb (s : State) (v : Byte) : (push8 v s).mb = s.mb := by simp [push8]
@[simp] theorem push8_dma (s : State) (v : Byte) : (push8 v s).dma = s.dma := by simp [push8]
@[simp] theorem push8_pt (s : State) (v : Byte) : (push8 v s).pt = s.pt := by simp [push8]
@[simp] theorem push8_opcount (s : State) (v : Byte) : (push8 v s).opcount = s.opcount := by simp [push8]
@[simp] theorem push8_cfg (s : State) (v : Byte) : (push8 v s).cfg = s.cfg := by simp [push8]
@[simp] theorem push8_sw (s : State) (v : Byte) : (push8 v s).sw = s.sw := by simp [push8]
@[simp] theorem push8_regions (s : State) (v : Byte) : (push8 v s).regions = s.regions := by simp [push8]

@[simp] theorem push16_pc (s : State) (v : Word) : (push16 v s).pc = s.pc := by simp [push16]
@[simp] theorem push16_flags (s : State) (v : Word) : (push16 v s).flags = s.flags := by simp [push16]
@[simp] theorem push16_ipl (s : State) (v : Word) : (push16 v s).ipl = s.ipl := by simp [push16]
@[simp] theorem push16_ie (s : State) (v : Word) : (push16 v s).ie = s.ie := by simp [push16]
@[simp] theorem push16_halted (s : State) (v : Word) : (push16 v s).halted = s.halted := by simp [push16]
@[simp] theorem push16_mb (s : State) (v : Word) : (push16 v s).mb = s.mb := by simp [push16]
@[simp] theorem push16_dma (s : State) (v : Word) : (push16 v s).dma = s.dma := by simp [push16]
@[simp] theorem push16_pt (s : State) (v : Word) : (push16 v s).pt = s.pt := by simp [push16]
@[simp] theorem push16_opcount (s : State) (v : Word) : (push16 v s).opcount = s.opcount := by simp [push16]
@[simp] theorem push16_cfg (s : State) (v : Word) : (push16 v s).cfg = s.cfg := by simp [push16]
@[simp] theorem push16_sw (s : State) (v : Word) : (push16 v s).sw = s.sw := by simp [push16]
@[simp] theorem push16_regions (s : State) (v : Word) : (push16 v s).regions = s.regions := by simp [push16]

@[simp] theorem pop8_pc (s : State) : ((pop8 s).2).pc = s.pc := by simp [pop8]
@[simp] theorem pop8_flags (s : State) : ((pop8 s).2).flags = s.flags := by simp [pop8]
@[simp] theorem pop8_ipl (s : State) : ((pop8 s).2).ipl = s.ipl := by simp [pop8]
@[simp] theorem pop8_ie (s : State) : ((pop8 s).2).ie = s.ie := by simp [pop8]
@[simp] theorem pop8_halted (s : State) : ((pop8 s).2).halted = s.halted := by simp [pop8]
@[simp] theorem pop8_mb (s : State) : ((pop8 s).2).mb = s.mb := by simp [pop8]
@[simp] theorem pop8_dma (s : State) : ((pop8 s).2).dma = s.dma := by simp [pop8]
@[simp] theorem pop8_pt (s : State) : ((pop8 s).2).pt = s.pt := by simp [pop8]
@[simp] theorem pop8_opcount (s : State) : ((pop8 s).2).opcount = s.opcount := by simp [pop8]
@[simp] theorem pop8_cfg (s : State) : ((pop8 s).2).cfg = s.cfg := by simp [pop8]
@[simp] theorem pop8_sw (s : State) : ((pop8 s).2).sw = s.sw := by simp [pop8]
@[simp] theorem pop8_regions (s : State) : ((pop8 s).2).regions = s.regions := by simp [pop8]
@[simp] theorem pop8_mem (s : State) : ((pop8 s).2).mem = s.mem := by simp [pop8]

@[simp] theorem pop16_pc (s : State) : ((pop16 s).2).pc = s.pc := by simp [pop16]
@[simp] theorem pop16_flags (s : State) : ((pop16 s).2).flags = s.flags := by simp [pop16]
@[simp] theorem pop16_ipl (s : State) : ((pop16 s).2).ipl = s.ipl := by simp [pop16]
@[simp] theorem pop16_ie (s : State) : ((pop16 s).2).ie = s.ie := by simp [pop16]
@[simp] theorem pop16_halted (s : State) : ((pop16 s).2).halted = s.halted := by simp [pop16]
@[simp] theorem pop16_mb (s : State) : ((pop16 s).2).mb = s.mb := by simp [pop16]
@[simp] theorem pop16_dma (s : State) : ((pop16 s).2).dma = s.dma := by simp [pop16]
@[simp] theorem pop16_pt (s : State) : ((pop16 s).2).pt = s.pt := by simp [pop16]
@[simp] theorem pop16_opcount (s : State) : ((pop16 s).2).opcount = s.opcount := by simp [pop16]
@[simp] theorem pop16_cfg (s : State) : ((pop16 s).2).cfg = s.cfg := by simp [pop16]
@[simp] theorem pop16_sw (s : State) : ((pop16 s).2).sw = s.sw := by simp [pop16]
@[simp] theorem pop16_regions (s : State) : ((pop16 s).2).regions = s.regions := by simp [pop16]
@[simp] theorem pop16_mem (s : State) : ((pop16 s).2).mem = s.mem := by simp [pop16]

@[simp] theorem eaIndexed_pc (s : State) (r : WReg) (st : IdxStep) (ind : Bool) (d : Option Byte) (z : Size) : ((eaIndexed r st ind d z s).2).pc = s.pc := by
  cases st <;> cases ind <;> simp [eaIndexed]
@[simp] theorem eaIndexed_flags (s : State) (r : WReg) (st : IdxStep) (ind : Bool) (d : Option Byte) (z : Size) : ((eaIndexed r st ind d z s).2).flags = s.flags := by
  cases st <;> cases ind <;> simp [eaIndexed]
@[simp] theorem eaIndexed_ipl (s : State) (r : WReg) (st : IdxStep) (ind : Bool) (d : Option Byte) (z : Size) : ((eaIndexed r st ind d z s).2).ipl = s.ipl := by
  cases st <;> cases ind <;> simp [eaIndexed]
@[simp] theorem eaIndexed_ie (s : State) (r : WReg) (st : IdxStep) (ind : Bool) (d : Option Byte) (z : Size) : ((eaIndexed r st ind d z s).2).ie = s.ie := by
  cases st <;> cases ind <;> simp [eaIndexed]
@[simp] theorem eaIndexed_halted (s : State) (r : WReg) (st : IdxStep) (ind : Bool) (d : Option Byte) (z : Size) : ((eaIndexed r st ind d z s).2).halted = s.halted := by
  cases st <;> cases ind <;> simp [eaIndexed]
@[simp] theorem eaIndexed_mb (s : State) (r : WReg) (st : IdxStep) (ind : Bool) (d : Option Byte) (z : Size) : ((eaIndexed r st ind d z s).2).mb = s.mb := by
  cases st <;> cases ind <;> simp [eaIndexed]
@[simp] theorem eaIndexed_dma (s : State) (r : WReg) (st : IdxStep) (ind : Bool) (d : Option Byte) (z : Size) : ((eaIndexed r st ind d z s).2).dma = s.dma := by
  cases st <;> cases ind <;> simp [eaIndexed]
@[simp] theorem eaIndexed_pt (s : State) (r : WReg) (st : IdxStep) (ind : Bool) (d : Option Byte) (z : Size) : ((eaIndexed r st ind d z s).2).pt = s.pt := by
  cases st <;> cases ind <;> simp [eaIndexed]
@[simp] theorem eaIndexed_opcount (s : State) (r : WReg) (st : IdxStep) (ind : Bool) (d : Option Byte) (z : Size) : ((eaIndexed r st ind d z s).2).opcount = s.opcount := by
  cases st <;> cases ind <;> simp [eaIndexed]
@[simp] theorem eaIndexed_cfg (s : State) (r : WReg) (st : IdxStep) (ind : Bool) (d : Option Byte) (z : Size) : ((eaIndexed r st ind d z s).2).cfg = s.cfg := by
  cases st <;> cases ind <;> simp [eaIndexed]
@[simp] theorem eaIndexed_sw (s : State) (r : WReg) (st : IdxStep) (ind : Bool) (d : Option Byte) (z : Size) : ((eaIndexed r st ind d z s).2).sw = s.sw := by
  cases st <;> cases ind <;> simp [eaIndexed]
@[simp] theorem eaIndexed_regions (s : State) (r : WReg) (st : IdxStep) (ind : Bool) (d : Option Byte) (z : Size) : ((eaIndexed r st ind d z s).2).regions = s.regions := by
  cases st <;> cases ind <;> simp [eaIndexed]
@[simp] theorem eaIndexed_mem (s : State) (r : WReg) (st : IdxStep) (ind : Bool) (d : Option Byte) (z : Size) : ((eaIndexed r st ind d z s).2).mem = s.mem := by
  cases st <;> cases ind <;> simp [eaIndexed]

@[simp] theorem effAddr_flags (s : State) (m : Mode) (z : Size) : ((effAddr m z s).2).flags = s.flags := by
  cases m <;> simp [effAddr]
@[simp] theorem effAddr_ipl (s : State) (m : Mode) (z : Size) : ((effAddr m z s).2).ipl = s.ipl := by
  cases m <;> simp [effAddr]
@[simp] theorem effAddr_ie (s : State) (m : Mode) (z : Size) : ((effAddr m z s).2).ie = s.ie := by
  cases m <;> simp [effAddr]
@[simp] theorem effAddr_halted (s : State) (m : Mode) (z : Size) : ((effAddr m z s).2).halted = s.halted := by
  cases m <;> simp [effAddr]
@[simp] theorem effAddr_mb (s : State) (m : Mode) (z : Size) : ((effAddr m z s).2).mb = s.mb := by
  cases m <;> simp [effAddr]
@[simp] theorem effAddr_dma (s : State) (m : Mode) (z : Size) : ((effAddr m z s).2).dma = s.dma := by
  cases m <;> simp [effAddr]
@[simp] theorem effAddr_pt (s : State) (m : Mode) (z : Size) : ((effAddr m z s).2).pt = s.pt := by
  cases m <;> simp [effAddr]
@[simp] theorem effAddr_opcount (s : State) (m : Mode) (z : Size) : ((effAddr m z s).2).opcount = s.opcount := by
  cases m <;> simp [effAddr]
@[simp] theorem effAddr_cfg (s : State) (m : Mode) (z : Size) : ((effAddr m z s).2).cfg = s.cfg := by
  cases m <;> simp [effAddr]
@[simp] theorem effAddr_sw (s : State) (m : Mode) (z : Size) : ((effAddr m z s).2).sw = s.sw := by
  cases m <;> simp [effAddr]
@[simp] theorem effAddr_regions (s : State) (m : Mode) (z : Size) : ((effAddr m z s).2).regions = s.regions := by
  cases m <;> simp [effAddr]
@[simp] theorem effAddr_mem (s : State) (m : Mode) (z : Size) : ((effAddr m z s).2).mem = s.mem := by
  cases m <;> simp [effAddr]

@[simp] theorem setXIfSome_pc (s : State) (i : Nibble) (v : Option Byte) : (setXIfSome i v s).pc = s.pc := by cases v <;> rfl
@[simp] theorem setXIfSome_flags (s : State) (i : Nibble) (v : Option Byte) : (setXIfSome i v s).flags = s.flags := by cases v <;> rfl
@[simp] theorem setXIfSome_ipl (s : State) (i : Nibble) (v : Option Byte) : (setXIfSome i v s).ipl = s.ipl := by cases v <;> rfl
@[simp] theorem setXIfSome_ie (s : State) (i : Nibble) (v : Option Byte) : (setXIfSome i v s).ie = s.ie := by cases v <;> rfl
@[simp] theorem setXIfSome_halted (s : State) (i : Nibble) (v : Option Byte) : (setXIfSome i v s).halted = s.halted := by cases v <;> rfl
@[simp] theorem setXIfSome_mb (s : State) (i : Nibble) (v : Option Byte) : (setXIfSome i v s).mb = s.mb := by cases v <;> rfl
@[simp] theorem setXIfSome_dma (s : State) (i : Nibble) (v : Option Byte) : (setXIfSome i v s).dma = s.dma := by cases v <;> rfl
@[simp] theorem setXIfSome_pt (s : State) (i : Nibble) (v : Option Byte) : (setXIfSome i v s).pt = s.pt := by cases v <;> rfl
@[simp] theorem setXIfSome_opcount (s : State) (i : Nibble) (v : Option Byte) : (setXIfSome i v s).opcount = s.opcount := by cases v <;> rfl
@[simp] theorem setXIfSome_cfg (s : State) (i : Nibble) (v : Option Byte) : (setXIfSome i v s).cfg = s.cfg := by cases v <;> rfl
@[simp] theorem setXIfSome_sw (s : State) (i : Nibble) (v : Option Byte) : (setXIfSome i v s).sw = s.sw := by cases v <;> rfl
@[simp] theorem setXIfSome_regions (s : State) (i : Nibble) (v : Option Byte) : (setXIfSome i v s).regions = s.regions := by cases v <;> rfl
@[simp] theorem setXIfSome_mem (s : State) (i : Nibble) (v : Option Byte) : (setXIfSome i v s).mem = s.mem := by cases v <;> rfl
@[simp] theorem setXIfSome_devLog (s : State) (i : Nibble) (v : Option Byte) : (setXIfSome i v s).devLog = s.devLog := by cases v <;> rfl

@[simp] theorem loadTable_pc (s : State) (b : BitVec 3) (k : Nat) (e : BitVec 5) (a : Word) : (loadTable b k e a s).pc = s.pc := by
  induction k generalizing s e a with
  | zero => rfl
  | succ n ih => rw [loadTable, ih]; simp
@[simp] theorem loadTable_flags (s : State) (b : BitVec 3) (k : Nat) (e : BitVec 5) (a : Word) : (loadTable b k e a s).flags = s.flags := by
  induction k generalizing s e a with
  | zero => rfl
  | succ n ih => rw [loadTable, ih]; simp
@[simp] theorem loadTable_ipl (s : State) (b : BitVec 3) (k : Nat) (e : BitVec 5) (a : Word) : (loadTable b k e a s).ipl = s.ipl := by
  induction k generalizing s e a with
  | zero => rfl
  | succ n ih => rw [loadTable, ih]; simp
@[simp] theorem loadTable_ie (s : State) (b : BitVec 3) (k : Nat) (e : BitVec 5) (a : Word) : (loadTable b k e a s).ie = s.ie := by
  induction k generalizing s e a with
  | zero => rfl
  | succ n ih => rw [loadTable, ih]; simp
@[simp] theorem loadTable_halted (s : State) (b : BitVec 3) (k : Nat) (e : BitVec 5) (a : Word) : (loadTable b k e a s).halted = s.halted := by
  induction k generalizing s e a with
  | zero => rfl
  | succ n ih => rw [loadTable, ih]; simp
@[simp] theorem loadTable_mb (s : State) (b : BitVec 3) (k : Nat) (e : BitVec 5) (a : Word) : (loadTable b k e a s).mb = s.mb := by
  induction k generalizing s e a with
  | zero => rfl
  | succ n ih => rw [loadTable, ih]; simp
@[simp] theorem loadTable_dma (s : State) (b : BitVec 3) (k : Nat) (e : BitVec 5) (a : Word) : (loadTable b k e a s).dma = s.dma := by
  induction k generalizing s e a with
  | zero => rfl
  | succ n ih => rw [loadTable, ih]; simp
@[simp] theorem loadTable_sram (s : State) (b : BitVec 3) (k : Nat) (e : BitVec 5) (a : Word) : (loadTable b k e a s).sram = s.sram := by
  induction k generalizing s e a with
  | zero => rfl
  | succ n ih => rw [loadTable, ih]; simp
@[simp] theorem loadTable_opcount (s : State) (b : BitVec 3) (k : Nat) (e : BitVec 5) (a : Word) : (loadTable b k e a s).opcount = s.opcount := by
  induction k generalizing s e a with
  | zero => rfl
  | succ n ih => rw [loadTable, ih]; simp
@[simp] theorem loadTable_cfg (s : State) (b : BitVec 3) (k : Nat) (e : BitVec 5) (a : Word) : (loadTable b k e a s).cfg = s.cfg := by
  induction k generalizing s e a with
  | zero => rfl
  | succ n ih => rw [loadTable, ih]; simp
@[simp] theorem loadTable_sw (s : State) (b : BitVec 3) (k : Nat) (e : BitVec 5) (a : Word) : (loadTable b k e a s).sw = s.sw := by
  induction k generalizing s e a with
  | zero => rfl
  | succ n ih => rw [loadTable, ih]; simp
@[simp] theorem loadTable_regions (s : State) (b : BitVec 3) (k : Nat) (e : BitVec 5) (a : Word) : (loadTable b k e a s).regions = s.regions := by
  induction k generalizing s e a with
  | zero => rfl
  | succ n ih => rw [loadTable, ih]; simp
@[simp] theorem loadTable_mem (s : State) (b : BitVec 3) (k : Nat) (e : BitVec 5) (a : Word) : (loadTable b k e a s).mem = s.mem := by
  induction k generalizing s e a with
  | zero => rfl
  | succ n ih => rw [loadTable, ih]; simp

@[simp] theorem storeTable_pc (s : State) (b : BitVec 3) (k : Nat) (e : BitVec 5) (a : Word) : (storeTable b k e a s).pc = s.pc := by
  induction k generalizing s e a with
  | zero => rfl
  | succ n ih => rw [storeTable, ih]; simp
@[simp] theorem storeTable_flags (s : State) (b : BitVec 3) (k : Nat) (e : BitVec 5) (a : Word) : (storeTable b k e a s).flags = s.flags := by
  induction k generalizing s e a with
  | zero => rfl
  | succ n ih => rw [storeTable, ih]; simp
@[simp] theorem storeTable_ipl (s : State) (b : BitVec 3) (k : Nat) (e : BitVec 5) (a : Word) : (storeTable b k e a s).ipl = s.ipl := by
  induction k generalizing s e a with
  | zero => rfl
  | succ n ih => rw [storeTable, ih]; simp
@[simp] theorem storeTable_ie (s : State) (b : BitVec 3) (k : Nat) (e : BitVec 5) (a : Word) : (storeTable b k e a s).ie = s.ie := by
  induction k generalizing s e a with
  | zero => rfl
  | succ n ih => rw [storeTable, ih]; simp
@[simp] theorem storeTable_halted (s : State) (b : BitVec 3) (k : Nat) (e : BitVec 5) (a : Word) : (storeTable b k e a s).halted = s.halted := by
  induction k generalizing s e a with
  | zero => rfl
  | succ n ih => rw [storeTable, ih]; simp
@[simp] theorem storeTable_mb (s : State) (b : BitVec 3) (k : Nat) (e : BitVec 5) (a : Word) : (storeTable b k e a s).mb = s.mb := by
  induction k generalizing s e a with
  | zero => rfl
  | succ n ih => rw [storeTable, ih]; simp
@[simp] theorem storeTable_dma (s : State) (b : BitVec 3) (k : Nat) (e : BitVec 5) (a : Word) : (storeTable b k e a s).dma = s.dma := by
  induction k generalizing s e a with
  | zero => rfl
  | succ n ih => rw [storeTable, ih]; simp
@[simp] theorem storeTable_pt (s : State) (b : BitVec 3) (k : Nat) (e : BitVec 5) (a : Word) : (storeTable b k e a s).pt = s.pt := by
  induction k generalizing s e a with
  | zero => rfl
  | succ n ih => rw [storeTable, ih]; simp
@[simp] theorem storeTable_opcount (s : State) (b : BitVec 3) (k : Nat) (e : BitVec 5) (a : Word) : (storeTable b k e a s).opcount = s.opcount := by
  induction k generalizing s e a with
  | zero => rfl
  | succ n ih => rw [storeTable, ih]; simp
@[simp] theorem storeTable_cfg (s : State) (b : BitVec 3) (k : Nat) (e : BitVec 5) (a : Word) : (storeTable b k e a s).cfg = s.cfg := by
  induction k generalizing s e a with
  | zero => rfl
  | succ n ih => rw [storeTable, ih]; simp
@[simp] theorem storeTable_sw (s : State) (b : BitVec 3) (k : Nat) (e : BitVec 5) (a : Word) : (storeTable b k e a s).sw = s.sw := by
  induction k generalizing s e a with
  | zero => rfl
  | succ n ih => rw [storeTable, ih]; simp
@[simp] theorem storeTable_regions (s : State) (b : BitVec 3) (k : Nat) (e : BitVec 5) (a : Word) : (storeTable b k e a s).regions = s.regions := by
  induction k generalizing s e a with
  | zero => rfl
  | succ n ih => rw [storeTable, ih]; simp

@[simp] theorem blockCopy_pc (s : State) (k : Nat) (a b : Word) : (blockCopy k a b s).pc = s.pc := by
  induction k generalizing s a b with
  | zero => rfl
  | succ n ih => rw [blockCopy, ih]; simp
@[simp] theorem blockCopy_flags (s : State) (k : Nat) (a b : Word) : (blockCopy k a b s).flags = s.flags := by
  induction k generalizing s a b with
  | zero => rfl
  | succ n ih => rw [blockCopy, ih]; simp
@[simp] theorem blockCopy_ipl (s : State) (k : Nat) (a b : Word) : (blockCopy k a b s).ipl = s.ipl := by
  induction k generalizing s a b with
  | zero => rfl
  | succ n ih => rw [blockCopy, ih]; simp
@[simp] theorem blockCopy_ie (s : State) (k : Nat) (a b : Word) : (blockCopy k a b s).ie = s.ie := by
  induction k generalizing s a b with
  | zero => rfl
  | succ n ih => rw [blockCopy, ih]; simp
@[simp] theorem blockCopy_halted (s : State) (k : Nat) (a b : Word) : (blockCopy k a b s).halted = s.halted := by
  induction k generalizing s a b with
  | zero => rfl
  | succ n ih => rw [blockCopy, ih]; simp
@[simp] theorem blockCopy_mb (s : State) (k : Nat) (a b : Word) : (blockCopy k a b s).mb = s.mb := by
  induction k generalizing s a b with
  | zero => rfl
  | succ n ih => rw [blockCopy, ih]; simp
@[simp] theorem blockCopy_dma (s : State) (k : Nat) (a b : Word) : (blockCopy k a b s).dma = s.dma := by
  induction k generalizing s a b with
  | zero => rfl
  | succ n ih => rw [blockCopy, ih]; simp
@[simp] theorem blockCopy_pt (s : State) (k : Nat) (a b : Word) : (blockCopy k a b s).pt = s.pt := by
  induction k generalizing s a b with
  | zero => rfl
  | succ n ih => rw [blockCopy, ih]; simp
@[simp] theorem blockCopy_opcount (s : State) (k : Nat) (a b : Word) : (blockCopy k a b s).opcount = s.opcount := by
  induction k generalizing s a b with
  | zero => rfl
  | succ n ih => rw [blockCopy, ih]; simp
@[simp] theorem blockCopy_cfg (s : State) (k : Nat) (a b : Word) : (blockCopy k a b s).cfg = s.cfg := by
  induction k generalizing s a b with
  | zero => rfl
  | succ n ih => rw [blockCopy, ih]; simp
@[simp] theorem blockCopy_sw (s : State) (k : Nat) (a b : Word) : (blockCopy k a b s).sw = s.sw := by
  induction k generalizing s a b with
  | zero => rfl
  | succ n ih => rw [blockCopy, ih]; simp
@[simp] theorem blockCopy_regions (s : State) (k : Nat) (a b : Word) : (blockCopy k a b s).regions = s.regions := by
  induction k generalizing s a b with
  | zero => rfl
  | succ n ih => rw [blockCopy, ih]; simp

@[simp] theorem blockCompare_pc (s : State) (k : Nat) (a b : Word) (eq : Bool) : ((blockCompare k a b eq s).2).pc = s.pc := by
  induction k generalizing s a b eq with
  | zero => rfl
  | succ n ih => rw [blockCompare, ih]; simp
@[simp] theorem blockCompare_flags (s : State) (k : Nat) (a b : Word) (eq : Bool) : ((blockCompare k a b eq s).2).flags = s.flags := by
  induction k generalizing s a b eq with
  | zero => rfl
  | succ n ih => rw [blockCompare, ih]; simp
@[simp] theorem blockCompare_ipl (s : State) (k : Nat) (a b : Word) (eq : Bool) : ((blockCompare k a b eq s).2).ipl = s.ipl := by
  induction k generalizing s a b eq with
  | zero => rfl
  | succ n ih => rw [blockCompare, ih]; simp
@[simp] theorem blockCompare_ie (s : State) (k : Nat) (a b : Word) (eq : Bool) : ((blockCompare k a b eq s).2).ie = s.ie := by
  induction k generalizing s a b eq with
  | zero => rfl
  | succ n ih => rw [blockCompare, ih]; simp
@[simp] theorem blockCompare_halted (s : State) (k : Nat) (a b : Word) (eq : Bool) : ((blockCompare k a b eq s).2).halted = s.halted := by
  induction k generalizing s a b eq with
  | zero => rfl
  | succ n ih => rw [blockCompare, ih]; simp
@[simp] theorem blockCompare_mb (s : State) (k : Nat) (a b : Word) (eq : Bool) : ((blockCompare k a b eq s).2).mb = s.mb := by
  induction k generalizing s a b eq with
  | zero => rfl
  | succ n ih => rw [blockCompare, ih]; simp
@[simp] theorem blockCompare_dma (s : State) (k : Nat) (a b : Word) (eq : Bool) : ((blockCompare k a b eq s).2).dma = s.dma := by
  induction k generalizing s a b eq with
  | zero => rfl
  | succ n ih => rw [blockCompare, ih]; simp
@[simp] theorem blockCompare_sram (s : State) (k : Nat) (a b : Word) (eq : Bool) : ((blockCompare k a b eq s).2).sram = s.sram := by
  induction k generalizing s a b eq with
  | zero => rfl
  | succ n ih => rw [blockCompare, ih]; simp
@[simp] theorem blockCompare_pt (s : State) (k : Nat) (a b : Word) (eq : Bool) : ((blockCompare k a b eq s).2).pt = s.pt := by
  induction k generalizing s a b eq with
  | zero => rfl
  | succ n ih => rw [blockCompare, ih]; simp
@[simp] theorem blockCompare_opcount (s : State) (k : Nat) (a b : Word) (eq : Bool) : ((blockCompare k a b eq s).2).opcount = s.opcount := by
  induction k generalizing s a b eq with
  | zero => rfl
  | succ n ih => rw [blockCompare, ih]; simp
@[simp] theorem blockCompare_cfg (s : State) (k : Nat) (a b : Word) (eq : Bool) : ((blockCompare k a b eq s).2).cfg = s.cfg := by
  induction k generalizing s a b eq with
  | zero => rfl
  | succ n ih => rw [blockCompare, ih]; simp
@[simp] theorem blockCompare_sw (s : State) (k : Nat) (a b : Word) (eq : Bool) : ((blockCompare k a b eq s).2).sw = s.sw := by
  induction k generalizing s a b eq with
  | zero => rfl
  | succ n ih => rw [blockCompare, ih]; simp
@[simp] theorem blockCompare_regions (s : State) (k : Nat) (a b : Word) (eq : Bool) : ((blockCompare k a b eq s).2).regions = s.regions := by
  induction k generalizing s a b eq with
  | zero => rfl
  | succ n ih => rw [blockCompare, ih]; simp
@[simp] theorem blockCompare_mem (s : State) (k : Nat) (a b : Word) (eq : Bool) : ((blockCompare k a b eq s).2).mem = s.mem := by
  induction k generalizing s a b eq with
  | zero => rfl
  | succ n ih => rw [blockCompare, ih]; simp

@[simp] theorem pushRun_pc (s : State) (r : Nibble) (k : Nat) (p : Word) : ((pushRun r k p s).2).pc = s.pc := by
  induction k generalizing s p with
  | zero => rfl
  | succ n ih => rw [pushRun, ih]; simp
@[simp] theorem pushRun_flags (s : State) (r : Nibble) (k : Nat) (p : Word) : ((pushRun r k p s).2).flags = s.flags := by
  induction k generalizing s p with
  | zero => rfl
  | succ n ih => rw [pushRun, ih]; simp
@[simp] theorem pushRun_ipl (s : State) (r : Nibble) (k : Nat) (p : Word) : ((pushRun r k p s).2).ipl = s.ipl := by
  induction k generalizing s p with
  | zero => rfl
  | succ n ih => rw [pushRun, ih]; simp
@[simp] theorem pushRun_ie (s : State) (r : Nibble) (k : Nat) (p : Word) : ((pushRun r k p s).2).ie = s.ie := by
  induction k generalizing s p with
  | zero => rfl
  | succ n ih => rw [pushRun, ih]; simp
@[simp] theorem pushRun_halted (s : State) (r : Nibble) (k : Nat) (p : Word) : ((pushRun r k p s).2).halted = s.halted := by
  induction k generalizing s p with
  | zero => rfl
  | succ n ih => rw [pushRun, ih]; simp
@[simp] theorem pushRun_mb (s : State) (r : Nibble) (k : Nat) (p : Word) : ((pushRun r k p s).2).mb = s.mb := by
  induction k generalizing s p with
  | zero => rfl
  | succ n ih => rw [pushRun, ih]; simp
@[simp] theorem pushRun_dma (s : State) (r : Nibble) (k : Nat) (p : Word) : ((pushRun r k p s).2).dma = s.dma := by
  induction k generalizing s p with
  | zero => rfl
  | succ n ih => rw [pushRun, ih]; simp
@[simp] theorem pushRun_pt (s : State) (r : Nibble) (k : Nat) (p : Word) : ((pushRun r k p s).2).pt = s.pt := by
  induction k generalizing s p with
  | zero => rfl
  | succ n ih => rw [pushRun, ih]; simp
@[simp] theorem pushRun_opcount (s : State) (r : Nibble) (k : Nat) (p : Word) : ((pushRun r k p s).2).opcount = s.opcount := by
  induction k generalizing s p with
  | zero => rfl
  | succ n ih => rw [pushRun, ih]; simp
@[simp] theorem pushRun_cfg (s : State) (r : Nibble) (k : Nat) (p : Word) : ((pushRun r k p s).2).cfg = s.cfg := by
  induction k generalizing s p with
  | zero => rfl
  | succ n ih => rw [pushRun, ih]; simp
@[simp] theorem pushRun_sw (s : State) (r : Nibble) (k : Nat) (p : Word) : ((pushRun r k p s).2).sw = s.sw := by
  induction k generalizing s p with
  | zero => rfl
  | succ n ih => rw [pushRun, ih]; simp
@[simp] theorem pushRun_regions (s : State) (r : Nibble) (k : Nat) (p : Word) : ((pushRun r k p s).2).regions = s.regions := by
  induction k generalizing s p with
  | zero => rfl
  | succ n ih => rw [pushRun, ih]; simp

@[simp] theorem popRun_pc (s : State) (k : Nat) (r : Nibble) (c : PopCarry) : ((popRun k r c s).2).pc = s.pc := by
  induction k generalizing s r c with
  | zero => rfl
  | succ n ih => rw [popRun]; split_ifs <;> rw [ih] <;> simp
@[simp] theorem popRun_flags (s : State) (k : Nat) (r : Nibble) (c : PopCarry) : ((popRun k r c s).2).flags = s.flags := by
  induction k generalizing s r c with
  | zero => rfl
  | succ n ih => rw [popRun]; split_ifs <;> rw [ih] <;> simp
@[simp] theorem popRun_ipl (s : State) (k : Nat) (r : Nibble) (c : PopCarry) : ((popRun k r c s).2).ipl = s.ipl := by
  induction k generalizing s r c with
  | zero => rfl
  | succ n ih => rw [popRun]; split_ifs <;> rw [ih] <;> simp
@[simp] theorem popRun_ie (s : State) (k : Nat) (r : Nibble) (c : PopCarry) : ((popRun k r c s).2).ie = s.ie := by
  induction k generalizing s r c with
  | zero => rfl
  | succ n ih => rw [popRun]; split_ifs <;> rw [ih] <;> simp
@[simp] theorem popRun_halted (s : State) (k : Nat) (r : Nibble) (c : PopCarry) : ((popRun k r c s).2).halted = s.halted := by
  induction k generalizing s r c with
  | zero => rfl
  | succ n ih => rw [popRun]; split_ifs <;> rw [ih] <;> simp
@[simp] theorem popRun_mb (s : State) (k : Nat) (r : Nibble) (c : PopCarry) : ((popRun k r c s).2).mb = s.mb := by
  induction k generalizing s r c with
  | zero => rfl
  | succ n ih => rw [popRun]; split_ifs <;> rw [ih] <;> simp
@[simp] theorem popRun_dma (s : State) (k : Nat) (r : Nibble) (c : PopCarry) : ((popRun k r c s).2).dma = s.dma := by
  induction k generalizing s r c with
  | zero => rfl
  | succ n ih => rw [popRun]; split_ifs <;> rw [ih] <;> simp
@[simp] theorem popRun_pt (s : State) (k : Nat) (r : Nibble) (c : PopCarry) : ((popRun k r c s).2).pt = s.pt := by
  induction k generalizing s r c with
  | zero => rfl
  | succ n ih => rw [popRun]; split_ifs <;> rw [ih] <;> simp
@[simp] theorem popRun_opcount (s : State) (k : Nat) (r : Nibble) (c : PopCarry) : ((popRun k r c s).2).opcount = s.opcount := by
  induction k generalizing s r c with
  | zero => rfl
  | succ n ih => rw [popRun]; split_ifs <;> rw [ih] <;> simp
@[simp] theorem popRun_cfg (s : State) (k : Nat) (r : Nibble) (c : PopCarry) : ((popRun k r c s).2).cfg = s.cfg := by
  induction k generalizing s r c with
  | zero => rfl
  | succ n ih => rw [popRun]; split_ifs <;> rw [ih] <;> simp
@[simp] theorem popRun_sw (s : State) (k : Nat) (r : Nibble) (c : PopCarry) : ((popRun k r c s).2).sw = s.sw := by
  induction k generalizing s r c with
  | zero => rfl
  | succ n ih => rw [popRun]; split_ifs <;> rw [ih] <;> simp
@[simp] theorem popRun_regions (s : State) (k : Nat) (r : Nibble) (c : PopCarry) : ((popRun k r c s).2).regions = s.regions := by
  induction k generalizing s r c with
  | zero => rfl
  | succ n ih => rw [popRun]; split_ifs <;> rw [ih] <;> simp
@[simp] theorem popRun_mem (s : State) (k : Nat) (r : Nibble) (c : PopCarry) : ((popRun k r c s).2).mem = s.mem := by
  induction k generalizing s r c with
  | zero => rfl
  | succ n ih => rw [popRun]; split_ifs <;> rw [ih] <;> simp

@[simp] theorem interruptEntry_ie (s : State) (l : Nibble) : (interruptEntry l s).ie = s.ie := rfl
@[simp] theorem interruptEntry_mb (s : State) (l : Nibble) : (interruptEntry l s).mb = s.mb := rfl
@[simp] theorem interruptEntry_dma (s : State) (l : Nibble) : (interruptEntry l s).dma = s.dma := rfl
@[simp] theorem interruptEntry_pt (s : State) (l : Nibble) : (interruptEntry l s).pt = s.pt := rfl
@[simp] theorem interruptEntry_opcount (s : State) (l : Nibble) : (interruptEntry l s).opcount = s.opcount := rfl
@[simp] theorem interruptEntry_cfg (s : State) (l : Nibble) : (interruptEntry l s).cfg = s.cfg := rfl
@[simp] theorem interruptEntry_sw (s : State) (l : Nibble) : (interruptEntry l s).sw = s.sw := rfl
@[simp] theorem interruptEntry_regions (s : State) (l : Nibble) : (interruptEntry l s).regions = s.regions := rfl
@[simp] theorem interruptEntry_mem (s : State) (l : Nibble) : (interruptEntry l s).mem = s.mem := rfl
@[simp] theorem interruptEntry_devLog (s : State) (l : Nibble) : (interruptEntry l s).devLog = s.devLog := rfl

@[simp] theorem interruptReturn_ie (s : State) : (interruptReturn s).ie = s.ie := rfl
@[simp] theorem interruptReturn_halted (s : State) : (interruptReturn s).halted = s.halted := rfl
@[simp] theorem interruptReturn_mb (s : State) : (interruptReturn s).mb = s.mb := rfl
@[simp] theorem interruptReturn_dma (s : State) : (interruptReturn s).dma = s.dma := rfl
@[simp] theorem interruptReturn_sram (s : State) : (interruptReturn s).sram = s.sram := rfl
@[simp] theorem interruptReturn_pt (s : State) : (interruptReturn s).pt = s.pt := rfl
@[simp] theorem interruptReturn_opcount (s : State) : (interruptReturn s).opcount = s.opcount := rfl
@[simp] theorem interruptReturn_cfg (s : State) : (interruptReturn s).cfg = s.cfg := rfl
@[simp] theorem interruptReturn_sw (s : State) : (interruptReturn s).sw = s.sw := rfl
@[simp] theorem interruptReturn_regions (s : State) : (interruptReturn s).regions = s.regions := rfl
@[simp] theorem interruptReturn_mem (s : State) : (interruptReturn s).mem = s.mem := rfl
@[simp] theorem interruptReturn_devLog (s : State) : (interruptReturn s).devLog = s.devLog := rfl

theorem fetchDec_field (P : State → State → Prop) (hr : ∀ s, P s s) (hs : ∀ s t, P (fetch8 s).2 t → P s t)
    (d : Dec) (s : State) : P s (fetchDec d s).2 := by
  induction d generalizing s with
  | done i => exact hr s
  | byte k ih => exact hs s _ (ih (fetch8 s).1 (fetch8 s).2)

@[simp] theorem fetchDec_flags (s : State) (d : Dec) : ((fetchDec d s).2).flags = s.flags := 
  fetchDec_field (fun s t => t.flags = s.flags) (fun _ => rfl) (fun _ _ h => by simpa using h) d s
@[simp] theorem fetchDec_ipl (s : State) (d : Dec) : ((fetchDec d s).2).ipl = s.ipl := 
  fetchDec_field (fun s t => t.ipl = s.ipl) (fun _ => rfl) (fun _ _ h => by simpa using h) d s
@[simp] theorem fetchDec_ie (s : State) (d : Dec) : ((fetchDec d s).2).ie = s.ie := 
  fetchDec_field (fun s t => t.ie = s.ie) (fun _ => rfl) (fun _ _ h => by simpa using h) d s
@[simp] theorem fetchDec_halted (s : State) (d : Dec) : ((fetchDec d s).2).halted = s.halted := 
  fetchDec_field (fun s t => t.halted = s.halted) (fun _ => rfl) (fun _ _ h => by simpa using h) d s
@[simp] theorem fetchDec_mb (s : State) (d : Dec) : ((fetchDec d s).2).mb = s.mb := 
  fetchDec_field (fun s t => t.mb = s.mb) (fun _ => rfl) (fun _ _ h => by simpa using h) d s
@[simp] theorem fetchDec_dma (s : State) (d : Dec) : ((fetchDec d s).2).dma = s.dma := 
  fetchDec_field (fun s t => t.dma = s.dma) (fun _ => rfl) (fun _ _ h => by simpa using h) d s
@[simp] theorem fetchDec_sram (s : State) (d : Dec) : ((fetchDec d s).2).sram = s.sram := 
  fetchDec_field (fun s t => t.sram = s.sram) (fun _ => rfl) (fun _ _ h => by simpa using h) d s
@[simp] theorem fetchDec_pt (s : State) (d : Dec) : ((fetchDec d s).2).pt = s.pt := 
  fetchDec_field (fun s t => t.pt = s.pt) (fun _ => rfl) (fun _ _ h => by simpa using h) d s
@[simp] theorem fetchDec_opcount (s : State) (d : Dec) : ((fetchDec d s).2).opcount = s.opcount := 
  fetchDec_field (fun s t => t.opcount = s.opcount) (fun _ => rfl) (fun _ _ h => by simpa using h) d s
@[simp] theorem fetchDec_cfg (s : State) (d : Dec) : ((fetchDec d s).2).cfg = s.cfg := 
  fetchDec_field (fun s t => t.cfg = s.cfg) (fun _ => rfl) (fun _ _ h => by simpa using h) d s
@[simp] theorem fetchDec_sw (s : State) (d : Dec) : ((fetchDec d s).2).sw = s.sw := 
  fetchDec_field (fun s t => t.sw = s.sw) (fun _ => rfl) (fun _ _ h => by simpa using h) d s
@[simp] theorem fetchDec_regions (s : State) (d : Dec) : ((fetchDec d s).2).regions = s.regions := 
  fetchDec_field (fun s t => t.regions = s.regions) (fun _ => rfl) (fun _ _ h => by simpa using h) d s
@[simp] theorem fetchDec_mem (s : State) (d : Dec) : ((fetchDec d s).2).mem = s.mem := 
  fetchDec_field (fun s t => t.mem = s.mem) (fun _ => rfl) (fun _ _ h => by simpa using h) d s

@[simp] theorem fetchInstr_flags (s : State) : ((fetchInstr s).2).flags = s.flags := by simp [fetchInstr]
@[simp] theorem fetchInstr_ipl (s : State) : ((fetchInstr s).2).ipl = s.ipl := by simp [fetchInstr]
@[simp] theorem fetchInstr_ie (s : State) : ((fetchInstr s).2).ie = s.ie := by simp [fetchInstr]
@[simp] theorem fetchInstr_halted (s : State) : ((fetchInstr s).2).halted = s.halted := by simp [fetchInstr]
@[simp] theorem fetchInstr_mb (s : State) : ((fetchInstr s).2).mb = s.mb := by simp [fetchInstr]
@[simp] theorem fetchInstr_dma (s : State) : ((fetchInstr s).2).dma = s.dma := by simp [fetchInstr]
@[simp] theorem fetchInstr_sram (s : State) : ((fetchInstr s).2).sram = s.sram := by simp [fetchInstr]
@[simp] theorem fetchInstr_pt (s : State) : ((fetchInstr s).2).pt = s.pt := by simp [fetchInstr]
@[simp] theorem fetchInstr_cfg (s : State) : ((fetchInstr s).2).cfg = s.cfg := by simp [fetchInstr]
@[simp] theorem fetchInstr_sw (s : State) : ((fetchInstr s).2).sw = s.sw := by simp [fetchInstr]
@[simp] theorem fetchInstr_regions (s : State) : ((fetchInstr s).2).regions = s.regions := by simp [fetchInstr]
@[simp] theorem fetchInstr_mem (s : State) : ((fetchInstr s).2).mem = s.mem := by simp [fetchInstr]

@[simp] theorem fetchInstr_opcount (s : State) : (fetchInstr s).2.opcount = countOpcode s.cfg s.opcount := by
  simp [fetchInstr]

@[simp] theorem countOpcode_unbounded {cfg : Config} (h : cfg.opcountWidth = none) (n : Nat) :
    countOpcode cfg n = n + 1 := by simp [countOpcode, h]
@[simp] theorem countOpcode_width {cfg : Config} {w : Nat} (h : cfg.opcountWidth = some w) (n : Nat) :
    countOpcode cfg n = (n + 1) % 2 ^ w := by simp [countOpcode, h]
@[simp] theorem opcountFits_countOpcode (cfg : Config) (n : Nat) : opcountFits cfg (countOpcode cfg n) = true := by
  unfold opcountFits countOpcode
  split <;> simp_all [Nat.mod_lt]
@[simp] theorem opcountFits_zero (cfg : Config) : opcountFits cfg 0 = true := by
  unfold opcountFits
  split <;> simp

end Sys2Proof.Laws
end

