-- ==== Sys2Proof/Laws/Memory.lean ====
section
/-! SUPPORT. The store behind the regions: reads after writes, and the canonical form that every operation keeps. -/

namespace Sys2Proof.Laws

open Sys2Proof.Machine

/-! ### The store -/

theorem read_below {m : List Host.Cell} {lo a : Nat} (h : Memory.wfFrom lo m = true) (ha : a < lo) :
    Memory.read m a = unlistedByte := by
  induction m generalizing lo with
  | nil => rfl
  | cons c rest ih =>
    obtain ⟨b, v⟩ := c
    simp only [Memory.wfFrom, Bool.and_eq_true, decide_eq_true_eq] at h
    obtain ⟨⟨⟨h1, _⟩, _⟩, h4⟩ := h
    have : b ≠ a := by omega
    simp only [Memory.read, this, if_false]
    exact ih h4 (by omega)

theorem wfFrom_mono {m : List Host.Cell} {lo hi : Nat} (h : Memory.wfFrom hi m = true) (hl : lo ≤ hi) :
    Memory.wfFrom lo m = true := by
  cases m with
  | nil => rfl
  | cons c rest =>
    obtain ⟨b, v⟩ := c
    simp only [Memory.wfFrom, Bool.and_eq_true, decide_eq_true_eq] at h ⊢
    exact ⟨⟨⟨by omega, h.1.1.2⟩, h.1.2⟩, h.2⟩

theorem wfFrom_write {m : List Host.Cell} {lo a : Nat} (v : Byte) (h : Memory.wfFrom lo m = true) (hl : lo ≤ a)
    (ha : a < 2 ^ 19) : Memory.wfFrom lo (Memory.write m a v) = true := by
  induction m generalizing lo with
  | nil =>
    simp only [Memory.write]
    split
    · rfl
    · rename_i hv; simp [Memory.wfFrom, hl, hv]; omega
  | cons c rest ih =>
    obtain ⟨b, w⟩ := c
    have h0 := h
    simp only [Memory.wfFrom, Bool.and_eq_true, decide_eq_true_eq] at h
    obtain ⟨⟨⟨h1, h2⟩, h3⟩, h4⟩ := h
    simp only [Memory.write]
    split_ifs with c1 c2 c3 c4
    · exact h0
    · simp only [Memory.wfFrom, Bool.and_eq_true, decide_eq_true_eq]
      exact ⟨⟨⟨hl, ha⟩, by simpa using c2⟩, ⟨⟨by omega, h2⟩, h3⟩, h4⟩
    · exact wfFrom_mono h4 (by omega)
    · simp only [Memory.wfFrom, Bool.and_eq_true, decide_eq_true_eq]
      exact ⟨⟨⟨hl, ha⟩, by simpa using c4⟩, by subst c3; exact h4⟩
    · simp only [Memory.wfFrom, Bool.and_eq_true, decide_eq_true_eq]
      exact ⟨⟨⟨h1, h2⟩, h3⟩, ih h4 (by omega)⟩

/-- A write keeps the canonical form. -/
theorem wf_write {m : List Host.Cell} (a : PAddr) (v : Byte) (h : Memory.wf m = true) :
    Memory.wf (Memory.write m a.toNat v) = true :=
  wfFrom_write v h (Nat.zero_le _) a.isLt

/-- A read of an address just written answers the byte written. -/
theorem read_write_same {m : List Host.Cell} {lo a : Nat} (v : Byte) (h : Memory.wfFrom lo m = true) :
    Memory.read (Memory.write m a v) a = v := by
  induction m generalizing lo with
  | nil => by_cases hv : v = unlistedByte <;> simp [Memory.write, Memory.read, hv]
  | cons c rest ih =>
    obtain ⟨b, w⟩ := c
    have h0 := h
    simp only [Memory.wfFrom, Bool.and_eq_true, decide_eq_true_eq] at h
    simp only [Memory.write]
    split_ifs with c1 c2 c3 c4
    · have hb : b ≠ a := by omega
      simp only [Memory.read, hb, if_false, c2]
      exact read_below h.2 (by omega)
    · simp [Memory.read]
    · subst c3; rw [c4]; exact read_below h.2 (by omega)
    · simp [Memory.read]
    · have hb : b ≠ a := fun e => c3 e.symm
      simp only [Memory.read, hb, if_false]
      exact ih h.2

/-- A write leaves every other address alone. -/
theorem read_write_ne {m : List Host.Cell} {a b : Nat} (v : Byte) (hab : b ≠ a) :
    Memory.read (Memory.write m a v) b = Memory.read m b := by
  induction m with
  | nil => by_cases hv : v = unlistedByte <;> simp [Memory.write, Memory.read, hv, hab.symm]
  | cons c rest ih =>
    obtain ⟨d, w⟩ := c
    simp only [Memory.write]
    split_ifs with c1 c2 c3 c4
    · rfl
    · simp [Memory.read, hab.symm]
    · subst c3; simp [Memory.read, hab.symm]
    · subst c3; simp [Memory.read, hab.symm]
    · simp only [Memory.read, ih]

/-! ### The canonical form under every operation that writes the store -/

theorem wf_physWrite {s : State} (p : PAddr) (v : Byte) (h : Memory.wf s.mem = true) :
    Memory.wf (physWrite s p v).mem = true := by
  unfold physWrite
  split
  · exact wf_write p v h
  · exact h
  · exact h

@[simp] theorem setSramByte_mem' (s : State) (i v : Byte) : (setSramByte s i v).mem = s.mem := rfl

theorem wf_memWrite8 {s : State} (a : Word) (v : Byte) (h : Memory.wf s.mem = true) :
    Memory.wf (memWrite8 a v s).mem = true := by
  unfold memWrite8
  split
  · exact h
  · exact wf_physWrite _ v h

theorem wf_memWrite16 {s : State} (a v : Word) (h : Memory.wf s.mem = true) :
    Memory.wf (memWrite16 a v s).mem = true :=
  wf_memWrite8 _ _ (wf_memWrite8 _ _ h)

theorem wf_push8 {s : State} (v : Byte) (h : Memory.wf s.mem = true) : Memory.wf (push8 v s).mem = true :=
  wf_memWrite8 _ _ h

theorem wf_push16 {s : State} (v : Word) (h : Memory.wf s.mem = true) : Memory.wf (push16 v s).mem = true :=
  wf_memWrite16 _ _ h

theorem wf_storeTable {s : State} (b : BitVec 3) (k : Nat) (e : BitVec 5) (a : Word)
    (h : Memory.wf s.mem = true) : Memory.wf (storeTable b k e a s).mem = true := by
  induction k generalizing s e a with
  | zero => exact h
  | succ n ih => exact ih _ _ (wf_memWrite8 _ _ h)

theorem wf_blockCopy {s : State} (k : Nat) (a b : Word) (h : Memory.wf s.mem = true) :
    Memory.wf (blockCopy k a b s).mem = true := by
  induction k generalizing s a b with
  | zero => exact h
  | succ n ih => exact ih _ _ (wf_memWrite8 _ _ (by simpa using h))

theorem wf_pushRun {s : State} (r : Nibble) (k : Nat) (p : Word) (h : Memory.wf s.mem = true) :
    Memory.wf (pushRun r k p s).2.mem = true := by
  induction k generalizing s p with
  | zero => exact h
  | succ n ih => exact ih _ (wf_memWrite8 _ _ h)

theorem wf_placeByte {s : State} (a : Word) (v : Byte) (h : Memory.wf s.mem = true) :
    Memory.wf (placeByte s a v).mem = true := by
  unfold placeByte
  split
  · exact h
  · split
    · exact wf_write _ v h
    · exact wf_write _ v h
    · exact wf_write _ v h
    · exact wf_write _ v h

/-- The reset state's store is canonical. -/
theorem wf_reset : Memory.wf State.reset.mem = true := rfl

end Sys2Proof.Laws
end

