-- ==== Sys2Proof/Laws/Bits.lean ====
section
/-! SUPPORT. The small lemmas of the bit-field helpers, of FLAGS and of the register fields. -/

namespace Sys2Proof.Laws

open Sys2Proof.Machine

/-! ### Nibbles, bytes, words -/

@[simp] theorem hiNibble_append (a b : Nibble) : hiNibble (a ++ b) = a := by
  revert a b; decide

@[simp] theorem loNibble_append (a b : Nibble) : loNibble (a ++ b) = b := by
  revert a b; decide

@[simp] theorem nibbles_append (b : Byte) : hiNibble b ++ loNibble b = b := by
  revert b; decide

theorem getLsbD_wordOf (h l : Byte) (i : Nat) :
    (wordOf h l).getLsbD i = if i < 8 then l.getLsbD i else h.getLsbD (i - 8) := by
  have := BitVec.getLsbD_append (x := h) (y := l) (i := i)
  simpa [wordOf] using this

@[simp] theorem hiByte_wordOf (h l : Byte) : hiByte (wordOf h l) = h := by
  apply BitVec.eq_of_getLsbD_eq
  intro i hi
  have h1 : ¬ 8 + i < 8 := by omega
  have h2 : 8 + i - 8 = i := by omega
  simp [hiByte, hi, getLsbD_wordOf, h1, h2]

@[simp] theorem loByte_wordOf (h l : Byte) : loByte (wordOf h l) = l := by
  apply BitVec.eq_of_getLsbD_eq
  intro i hi
  simp [loByte, hi, getLsbD_wordOf]

@[simp] theorem wordOf_bytes (w : Word) : wordOf (hiByte w) (loByte w) = w := by
  apply BitVec.eq_of_getLsbD_eq
  intro i hi
  rw [getLsbD_wordOf]
  split
  · rename_i h; simp [loByte, h]
  · rename_i h
    have h1 : i - 8 < 8 := by omega
    have h2 : 8 + (i - 8) = i := by omega
    simp [hiByte, h1, h2]

@[simp] theorem hiNibble_setHiNibble (b : Byte) (n : Nibble) : hiNibble (setHiNibble b n) = n := by
  simp [setHiNibble]

@[simp] theorem loNibble_setHiNibble (b : Byte) (n : Nibble) : loNibble (setHiNibble b n) = loNibble b := by
  simp [setHiNibble]

theorem repeatN_zero {α : Type} (f : α → α) (a : α) : repeatN f 0 a = a := rfl

theorem repeatN_succ {α : Type} (f : α → α) (n : Nat) (a : α) : repeatN f (n + 1) a = repeatN f n (f a) := rfl

theorem repeatN_succ' {α : Type} (f : α → α) (n : Nat) (a : α) : repeatN f (n + 1) a = f (repeatN f n a) := by
  induction n generalizing a with
  | zero => rfl
  | succ k ih => rw [repeatN_succ, ih, ← repeatN_succ]

/-! ### FLAGS -/

@[simp] theorem flagV_packFlags (v m f l : Bool) : flagV (packFlags v m f l) = v := by
  revert v m f l; decide

@[simp] theorem flagM_packFlags (v m f l : Bool) : flagM (packFlags v m f l) = m := by
  revert v m f l; decide

@[simp] theorem flagF_packFlags (v m f l : Bool) : flagF (packFlags v m f l) = f := by
  revert v m f l; decide

@[simp] theorem flagL_packFlags (v m f l : Bool) : flagL (packFlags v m f l) = l := by
  revert v m f l; decide

@[simp] theorem packFlags_flags (fl : FlagNibble) : packFlags (flagV fl) (flagM fl) (flagF fl) (flagL fl) = fl := by
  revert fl; decide

/-- FLAGS are equal when their four bits are (10_state.md R27). -/
theorem flags_ext {a b : FlagNibble} (hv : flagV a = flagV b) (hm : flagM a = flagM b) (hf : flagF a = flagF b)
    (hl : flagL a = flagL b) : a = b := by
  rw [← packFlags_flags a, ← packFlags_flags b, hv, hm, hf, hl]

@[simp] theorem flagV_setV (fl : FlagNibble) (b : Bool) : flagV (setV fl b) = b := by simp [setV]
@[simp] theorem flagM_setV (fl : FlagNibble) (b : Bool) : flagM (setV fl b) = flagM fl := by simp [setV]
@[simp] theorem flagF_setV (fl : FlagNibble) (b : Bool) : flagF (setV fl b) = flagF fl := by simp [setV]
@[simp] theorem flagL_setV (fl : FlagNibble) (b : Bool) : flagL (setV fl b) = flagL fl := by simp [setV]
@[simp] theorem flagV_setF (fl : FlagNibble) (b : Bool) : flagV (setF fl b) = flagV fl := by simp [setF]
@[simp] theorem flagM_setF (fl : FlagNibble) (b : Bool) : flagM (setF fl b) = flagM fl := by simp [setF]
@[simp] theorem flagF_setF (fl : FlagNibble) (b : Bool) : flagF (setF fl b) = b := by simp [setF]
@[simp] theorem flagL_setF (fl : FlagNibble) (b : Bool) : flagL (setF fl b) = flagL fl := by simp [setF]
@[simp] theorem flagV_setL (fl : FlagNibble) (b : Bool) : flagV (setL fl b) = flagV fl := by simp [setL]
@[simp] theorem flagM_setL (fl : FlagNibble) (b : Bool) : flagM (setL fl b) = flagM fl := by simp [setL]
@[simp] theorem flagF_setL (fl : FlagNibble) (b : Bool) : flagF (setL fl b) = flagF fl := by simp [setL]
@[simp] theorem flagL_setL (fl : FlagNibble) (b : Bool) : flagL (setL fl b) = b := by simp [setL]

@[simp] theorem flagV_setMV {n : Nat} (r : BitVec n) (fl : FlagNibble) : flagV (setMV r fl) = (r == 0) := by
  simp [setMV]
@[simp] theorem flagM_setMV {n : Nat} (r : BitVec n) (fl : FlagNibble) : flagM (setMV r fl) = r.msb := by
  simp [setMV]
@[simp] theorem flagF_setMV {n : Nat} (r : BitVec n) (fl : FlagNibble) : flagF (setMV r fl) = flagF fl := by
  simp [setMV]
@[simp] theorem flagL_setMV {n : Nat} (r : BitVec n) (fl : FlagNibble) : flagL (setMV r fl) = flagL fl := by
  simp [setMV]

/-! ### Register fields -/

@[simp] theorem ofSel_sel (r : WReg) : WReg.ofSel r.sel = r := by cases r <;> rfl

@[simp] theorem sel_ofSel (k : BitVec 3) : (WReg.ofSel k).sel = k := by revert k; decide

@[simp] theorem isOdd_hi (r : WReg) : isOdd r.hi = false := by cases r <;> rfl

@[simp] theorem wregOf_hi (r : WReg) : wregOf r.hi = r := by cases r <;> rfl

@[simp] theorem isOdd_oddSel (k : BitVec 3) : isOdd (oddSel k) = true := by revert k; decide

@[simp] theorem selOf_oddSel (k : BitVec 3) : selOf (oddSel k) = k := by revert k; decide

theorem hi_wregOf {n : Nibble} (h : isOdd n = false) : (wregOf n).hi = n := by revert n; decide

theorem oddSel_selOf {n : Nibble} (h : isOdd n = true) : oddSel (selOf n) = n := by revert n; decide

@[simp] theorem lowThree_lowBank (b : BitVec 3) : lowThree (lowBank b) = b := by revert b; decide

@[simp] theorem lowThree_highBank (b : BitVec 3) : lowThree (highBank b) = b := by revert b; decide

@[simp] theorem lowBank_bit (b : BitVec 3) : (lowBank b).getLsbD 3 = false := by revert b; decide

@[simp] theorem highBank_bit (b : BitVec 3) : (highBank b).getLsbD 3 = true := by revert b; decide

@[simp] theorem ofBits_bits (st : IdxStep) : IdxStep.ofBits st.bits = st := by cases st <;> rfl

theorem hi_ne_lo (r q : WReg) : r.hi ≠ q.lo := by cases r <;> cases q <;> decide

theorem hi_inj {r q : WReg} (h : r.hi = q.hi) : r = q := by cases r <;> cases q <;> revert h <;> decide

theorem lo_inj {r q : WReg} (h : r.lo = q.lo) : r = q := by cases r <;> cases q <;> revert h <;> decide

end Sys2Proof.Laws
end

