-- ==== Sys2Proof/Laws/Registers.lean ====
section
/-! SUPPORT. The register file and the page tables: reads after writes. -/

namespace Sys2Proof.Laws

open Sys2Proof.Machine

/-! ### SRAM -/

@[simp] theorem sramByte_setSramByte (s : State) (i v : Byte) : sramByte (setSramByte s i v) i = v := by
  simp [sramByte, setSramByte]

theorem sramByte_setSramByte_ne (s : State) {i j : Byte} (v : Byte) (h : j ≠ i) :
    sramByte (setSramByte s i v) j = sramByte s j := by
  have : i.toNat ≠ j.toNat := fun e => h (BitVec.toNat_inj.mp e.symm)
  simp [sramByte, setSramByte, this]

theorem regIndex_inj {k i l j : Nibble} : regIndex k i = regIndex l j ↔ k = l ∧ i = j := by
  constructor
  · intro h
    exact ⟨by simpa [regIndex] using congrArg hiNibble h, by simpa [regIndex] using congrArg loNibble h⟩
  · rintro ⟨rfl, rfl⟩; rfl

/-- The register file determines the state's register bytes (10_state.md R22, R41). -/
theorem sram_ext {s t : State} (h : ∀ i, sramByte s i = sramByte t i) : s.sram = t.sram := by
  apply Vector.ext
  intro i hi
  have := h (BitVec.ofNat 8 i)
  simpa [sramByte, Nat.mod_eq_of_lt hi] using this

/-! ### Byte registers -/

@[simp] theorem getX_setX (s : State) (i : Nibble) (v : Byte) : getX (setX s i v) i = v :=
  sramByte_setSramByte _ _ _

theorem getX_setX_ne (s : State) {i j : Nibble} (v : Byte) (h : j ≠ i) : getX (setX s i v) j = getX s j :=
  sramByte_setSramByte_ne _ _ (fun e => h (regIndex_inj.mp e).2)

/-! ### Word registers -/

@[simp] theorem getX_hi_setXw (s : State) (r : WReg) (v : Word) : getX (setXw s r v) r.hi = hiByte v := by
  simp [setXw, getX_setX_ne _ _ (hi_ne_lo r r)]

@[simp] theorem getX_lo_setXw (s : State) (r : WReg) (v : Word) : getX (setXw s r v) r.lo = loByte v := by
  simp [setXw]

theorem getX_setXw_ne (s : State) {r : WReg} {i : Nibble} (v : Word) (h1 : i ≠ r.hi) (h2 : i ≠ r.lo) :
    getX (setXw s r v) i = getX s i := by
  simp [setXw, getX_setX_ne _ _ h1, getX_setX_ne _ _ h2]

@[simp] theorem getXw_setXw (s : State) (r : WReg) (v : Word) : getXw (setXw s r v) r = v := by
  simp [getXw]

theorem getXw_setXw_ne (s : State) {r q : WReg} (v : Word) (h : q ≠ r) : getXw (setXw s r v) q = getXw s q := by
  unfold getXw
  rw [getX_setXw_ne _ _ (fun e => h (hi_inj e)) (hi_ne_lo q r),
    getX_setXw_ne _ _ (fun e => hi_ne_lo r q e.symm) (fun e => h (lo_inj e))]

theorem sramByte_setXw_ne (s : State) {r : WReg} {i : Byte} (v : Word) (h1 : i ≠ regIndex s.ipl r.hi)
    (h2 : i ≠ regIndex s.ipl r.lo) : sramByte (setXw s r v) i = sramByte s i := by
  unfold setXw
  rw [setX, sramByte_setSramByte_ne _ _ (by simpa using h2), setX, sramByte_setSramByte_ne _ _ h1]

/-! ### Page tables -/

@[simp] theorem ptEntry_setPtEntry (s : State) (b : BitVec 3) (e : BitVec 5) (v : Byte) :
    ptEntry (setPtEntry s b e v) b e = v := by
  simp [ptEntry, setPtEntry]

theorem ptEntry_setPtEntry_ne (s : State) {b c : BitVec 3} {e f : BitVec 5} (v : Byte) (h : c ≠ b ∨ f ≠ e) :
    ptEntry (setPtEntry s b e v) c f = ptEntry s c f := by
  by_cases hb : b = c
  · subst hb
    have hf : e.toNat ≠ f.toNat := fun x => (h.resolve_left (fun n => n rfl)) (BitVec.toNat_inj.mp x.symm)
    simp [ptEntry, setPtEntry, hf]
  · have : b.toNat ≠ c.toNat := fun x => hb (BitVec.toNat_inj.mp x)
    simp [ptEntry, setPtEntry, this]

end Sys2Proof.Laws
end

