-- ==== Sys2Proof/Laws/Access.lean ====
section
/-! SUPPORT. The logical access path: what one write does to every later read, once for all (20_memory.md R60 to R75). -/

namespace Sys2Proof.Laws

open Sys2Proof.Machine

/-! ### Where an address goes depends on PT and MB alone, what is there on the regions too -/

theorem translate_congr {s t : State} (hp : t.pt = s.pt) (hm : t.mb = s.mb) (a : Word) :
    Machine.translate t a = Machine.translate s a := by
  simp only [Machine.translate, ptEntry, hp, hm]

theorem resolve_congr {s t : State} (hp : t.pt = s.pt) (hm : t.mb = s.mb) (a : Word) : resolve t a = resolve s a := by
  simp only [resolve, translate_congr hp hm]

theorem isDevice_congr {s t : State} (hp : t.pt = s.pt) (hm : t.mb = s.mb) (hr : t.regions = s.regions) (a : Word) :
    isDevice t a = isDevice s a := by
  simp only [isDevice, resolve_congr hp hm, hr]

theorem isWritable_congr {s t : State} (hp : t.pt = s.pt) (hm : t.mb = s.mb) (hr : t.regions = s.regions) (a : Word) :
    isWritable t a = isWritable s a := by
  simp only [isWritable, resolve_congr hp hm, hr]

theorem isRam_congr {s t : State} (hp : t.pt = s.pt) (hm : t.mb = s.mb) (hr : t.regions = s.regions) (a : Word) :
    isRam t a = isRam s a := by
  simp only [isRam, resolve_congr hp hm, hr]

/-- What a read answers depends on PT, MB, the regions and what they and the register file hold. -/
theorem readByte_congr {s t : State} (hp : t.pt = s.pt) (hm : t.mb = s.mb) (hr : t.regions = s.regions)
    (hs : t.sram = s.sram) (hc : t.mem = s.mem) (hd : t.devLog = s.devLog) (a : Word) :
    readByte t a = readByte s a := by
  simp only [readByte, resolve_congr hp hm, sramByte, physByte, hr, hs, hc, hd]

/-- A byte that is no device's depends neither on the devices' history. -/
theorem readByte_quiet {s t : State} (hp : t.pt = s.pt) (hm : t.mb = s.mb) (hr : t.regions = s.regions)
    (hs : t.sram = s.sram) (hc : t.mem = s.mem) {a : Word} (h : isDevice s a = false) :
    readByte t a = readByte s a := by
  simp only [readByte, resolve_congr hp hm, sramByte, hs]
  unfold isDevice at h
  cases hx : resolve s a with
  | sram i => rfl
  | phys p =>
    simp only [hx, decide_eq_false_iff_not] at h
    simp only [physByte, hr, hc]
    split <;> simp_all

/-- A byte outside the register file and the devices depends on what the regions hold alone. -/
theorem readByte_outside {s t : State} (hp : t.pt = s.pt) (hm : t.mb = s.mb) (hr : t.regions = s.regions)
    (hc : t.mem = s.mem) {a : Word} (h : isQuiet s a = true) : readByte t a = readByte s a := by
  simp only [isQuiet, Bool.and_eq_true, decide_eq_true_eq, Bool.not_eq_true'] at h
  have h2 := h.2
  have hx : resolve s a = .phys (Machine.translate s a) := by
    have : ¬ a.toNat < 0x100 := by omega
    simp only [resolve, this, if_false]
  unfold isDevice at h2
  simp only [hx, decide_eq_false_iff_not] at h2
  simp only [readByte, resolve_congr hp hm, hx, physByte, hr, hc]
  split <;> simp_all

/-- A read of no device leaves the state as it is. -/
theorem readDone_quiet {s : State} {a : Word} (h : isDevice s a = false) : readDone s a = s := by
  unfold readDone
  unfold isDevice at h
  split
  · rfl
  · rename_i p hx
    simp only [hx, decide_eq_false_iff_not] at h
    unfold physReadDone
    split <;> simp_all

theorem memRead8_quiet {s : State} {a : Word} (h : isDevice s a = false) : memRead8 a s = (readByte s a, s) := by
  simp [memRead8, readDone_quiet h]

theorem memRead16_quiet {s : State} {a : Word} (h : isDevice s a = false) (h1 : isDevice s (a + 1) = false) :
    memRead16 a s = (wordOf (readByte s a) (readByte s (a + 1)), s) := by
  simp only [memRead16, memRead8_quiet h, memRead8_quiet h1]

/-! ### One write -/

/-- Everything a byte write can do: the register file, RAM, a device's record, or nothing. -/
theorem memWrite8_cases (a : Word) (v : Byte) (s : State) :
    (∃ i, resolve s a = .sram i ∧ memWrite8 a v s = setSramByte s i v) ∨
    (∃ p, resolve s a = .phys p ∧ regionAt s.regions p = some .ram ∧
      memWrite8 a v s = { s with mem := Memory.write s.mem p.toNat v }) ∨
    (∃ p, resolve s a = .phys p ∧ regionAt s.regions p = some .device ∧
      memWrite8 a v s = { s with devLog := .write p v :: s.devLog }) ∨
    (isWritable s a = false ∧ isDevice s a = false ∧ memWrite8 a v s = s) := by
  unfold memWrite8
  cases hx : resolve s a with
  | sram i => exact .inl ⟨i, rfl, rfl⟩
  | phys p =>
    refine .inr ?_
    simp only [isWritable, isDevice, hx, physWrite]
    cases hr : regionAt s.regions p with
    | none => simp [hr]
    | some k => cases k <;> simp [hr]

/-- A byte written to a writable place is what every address of that place reads as. -/
theorem readByte_memWrite8_same {s : State} {a b : Word} (v : Byte) (hw : Memory.wf s.mem = true)
    (ha : isWritable s a = true) (hb : resolve s b = resolve s a) : readByte (memWrite8 a v s) b = v := by
  have hr : resolve (memWrite8 a v s) b = resolve s a := by
    rw [resolve_congr (s := s) (by simp) (by simp), hb]
  rcases memWrite8_cases a v s with ⟨i, h, e⟩ | ⟨p, h, hp, e⟩ | ⟨p, h, hp, e⟩ | ⟨h, -, -⟩
  · simp only [readByte, hr, h]; simp [e]
  · simp only [readByte, hr, h]; simp only [e, physByte, hp]; exact read_write_same v hw
  · simp [isWritable, h, hp] at ha
  · simp [h] at ha

/-- A write leaves the byte of every other place alone, a device's apart. -/
theorem readByte_memWrite8_ne {s : State} {a b : Word} (v : Byte) (hb : resolve s b ≠ resolve s a)
    (hd : isDevice s b = false) : readByte (memWrite8 a v s) b = readByte s b := by
  have hr : resolve (memWrite8 a v s) b = resolve s b := resolve_congr (by simp) (by simp) b
  rcases memWrite8_cases a v s with ⟨i, h, e⟩ | ⟨p, h, hp, e⟩ | ⟨p, h, hp, e⟩ | ⟨-, -, e⟩
  · simp only [readByte, hr]
    cases hx : resolve s b with
    | sram j =>
      have : j ≠ i := fun c => hb (by rw [hx, h, c])
      simp [e, sramByte_setSramByte_ne _ _ this]
    | phys q => simp [e, physByte, setSramByte]
  · simp only [readByte, hr]
    cases hx : resolve s b with
    | sram j => simp [e, sramByte]
    | phys q =>
      have : q.toNat ≠ p.toNat := fun c => hb (by rw [hx, h, BitVec.toNat_inj.mp c])
      simp only [e, physByte, read_write_ne v this]
  · rw [e]; exact readByte_quiet (s := s) (t := { s with devLog := .write p v :: s.devLog }) rfl rfl rfl rfl rfl hd
  · rw [e]

/-- A write that is neither kept nor a device's changes nothing. -/
theorem memWrite8_dropped {s : State} {a : Word} (v : Byte) (hw : isWritable s a = false) (hd : isDevice s a = false) :
    memWrite8 a v s = s := by
  rcases memWrite8_cases a v s with ⟨i, h, e⟩ | ⟨p, h, hp, e⟩ | ⟨p, h, hp, e⟩ | ⟨-, -, e⟩
  · simp [isWritable, h] at hw
  · simp [isWritable, h, hp] at hw
  · simp [isDevice, h, hp] at hd
  · exact e

theorem writable_not_device {s : State} {a : Word} (h : isWritable s a = true) : isDevice s a = false := by
  unfold isWritable at h
  unfold isDevice
  split at h <;> simp_all

theorem ram_writable {s : State} {a : Word} (h : isRam s a = true) : isWritable s a = true := by
  unfold isRam at h
  unfold isWritable
  split at h <;> simp_all

theorem ram_quiet {s : State} {a : Word} (h : isRam s a = true) : isQuiet s a = true := by
  have hd := writable_not_device (ram_writable h)
  simp only [isQuiet, hd, Bool.not_false, Bool.and_true, decide_eq_true_eq]
  unfold isRam resolve at h
  by_cases c : a.toNat < 0x100
  · simp [c] at h
  · omega

/-- A write outside a device leaves the devices' history alone. -/
theorem devLog_memWrite8 {s : State} {a : Word} (v : Byte) (hd : isDevice s a = false) :
    (memWrite8 a v s).devLog = s.devLog := by
  rcases memWrite8_cases a v s with ⟨i, h, e⟩ | ⟨p, h, hp, e⟩ | ⟨p, h, hp, e⟩ | ⟨-, -, e⟩
  · rw [e]; rfl
  · rw [e]
  · simp [isDevice, h, hp] at hd
  · rw [e]

/-- A write to RAM leaves the register file alone. -/
theorem sram_memWrite8 {s : State} {a : Word} (v : Byte) (h : 0x100 ≤ a.toNat) : (memWrite8 a v s).sram = s.sram := by
  rcases memWrite8_cases a v s with ⟨i, hx, e⟩ | ⟨p, -, -, e⟩ | ⟨p, -, -, e⟩ | ⟨-, -, e⟩
  · have : ¬ a.toNat < 0x100 := by omega
    simp only [resolve, this, if_false, reduceCtorEq] at hx
  · rw [e]
  · rw [e]
  · rw [e]

/-! ### Nearby addresses are different places -/

/-- Two logical addresses less than a page apart, modulo 2^16, are different places. -/
theorem resolve_ne_of_near {s : State} {a b : Word} (h0 : a ≠ b) (h : (b - a).toNat < 2048) :
    resolve s b ≠ resolve s a := by
  intro e
  unfold resolve Machine.translate at e
  by_cases ca : a.toNat < 0x100 <;> by_cases cb : b.toNat < 0x100
  · simp only [ca, cb, if_true, Place.sram.injEq] at e
    have := congrArg BitVec.toNat e
    simp only [BitVec.extractLsb'_toNat, Nat.shiftRight_zero] at this
    exact h0 (BitVec.eq_of_toNat_eq (by omega))
  · simp [ca, cb] at e
  · simp [ca, cb] at e
  · simp only [ca, cb, if_false, Place.phys.injEq] at e
    have := congrArg (fun p : PAddr => (p.extractLsb' 0 11).toNat) e
    simp only [BitVec.extractLsb'_append_eq_right, BitVec.extractLsb'_toNat, Nat.shiftRight_zero] at this
    have h1 : (b - a).toNat = (2 ^ 16 - a.toNat + b.toNat) % 2 ^ 16 := BitVec.toNat_sub ..
    have h2 := a.isLt
    have h3 := b.isLt
    exact h0 (BitVec.eq_of_toNat_eq (by omega))

theorem resolve_succ_ne (s : State) (a : Word) : resolve s (a + 1) ≠ resolve s a :=
  resolve_ne_of_near (by bv_omega) (by simp)

end Sys2Proof.Laws
end

