-- ==== Sys2Proof/Laws/OpcodeMap.lean ====
section
/-! SUPPORT. The opcode map read off the decoder: the tree of every opcode byte (30_encoding.md R105). -/

namespace Sys2Proof.Laws

@[simp] theorem decodeOp_00 : decodeOp 0x00#8 = .done .hlt := rfl
@[simp] theorem decodeOp_01 : decodeOp 0x01#8 = .done .nop := rfl
@[simp] theorem decodeOp_02 : decodeOp 0x02#8 = .done .sf := rfl
@[simp] theorem decodeOp_03 : decodeOp 0x03#8 = .done .rf := rfl
@[simp] theorem decodeOp_04 : decodeOp 0x04#8 = .done .ei := rfl
@[simp] theorem decodeOp_05 : decodeOp 0x05#8 = .done .di := rfl
@[simp] theorem decodeOp_06 : decodeOp 0x06#8 = .done .sl := rfl
@[simp] theorem decodeOp_07 : decodeOp 0x07#8 = .done .rl := rfl
@[simp] theorem decodeOp_08 : decodeOp 0x08#8 = .done .cl := rfl
@[simp] theorem decodeOp_09 : decodeOp 0x09#8 = .done .rsr := rfl
@[simp] theorem decodeOp_0A : decodeOp 0x0A#8 = .done .ri := rfl
@[simp] theorem decodeOp_0B : decodeOp 0x0B#8 = .done .rim := rfl
@[simp] theorem decodeOp_0C : decodeOp 0x0C#8 = .done .cf := rfl
@[simp] theorem decodeOp_0D : decodeOp 0x0D#8 = .done .pcx := rfl
@[simp] theorem decodeOp_0E : decodeOp 0x0E#8 = .done .dly := rfl
@[simp] theorem decodeOp_0F : decodeOp 0x0F#8 = .done .rsys := rfl
@[simp] theorem decodeOp_10 : decodeOp 0x10#8 = decByte .bl := rfl
@[simp] theorem decodeOp_11 : decodeOp 0x11#8 = decByte .bnl := rfl
@[simp] theorem decodeOp_12 : decodeOp 0x12#8 = decByte .bf := rfl
@[simp] theorem decodeOp_13 : decodeOp 0x13#8 = decByte .bnf := rfl
@[simp] theorem decodeOp_14 : decodeOp 0x14#8 = decByte .bz := rfl
@[simp] theorem decodeOp_15 : decodeOp 0x15#8 = decByte .bnz := rfl
@[simp] theorem decodeOp_16 : decodeOp 0x16#8 = decByte .bm := rfl
@[simp] theorem decodeOp_17 : decodeOp 0x17#8 = decByte .bp := rfl
@[simp] theorem decodeOp_18 : decodeOp 0x18#8 = decByte .bs1 := rfl
@[simp] theorem decodeOp_19 : decodeOp 0x19#8 = decByte .bns1 := rfl
@[simp] theorem decodeOp_1A : decodeOp 0x1A#8 = decByte .bs2 := rfl
@[simp] theorem decodeOp_1B : decodeOp 0x1B#8 = decByte .bns2 := rfl
@[simp] theorem decodeOp_1C : decodeOp 0x1C#8 = decByte .bs3 := rfl
@[simp] theorem decodeOp_1D : decodeOp 0x1D#8 = decByte .bns3 := rfl
@[simp] theorem decodeOp_1E : decodeOp 0x1E#8 = decByte .bs4 := rfl
@[simp] theorem decodeOp_1F : decodeOp 0x1F#8 = decByte .bns4 := rfl
@[simp] theorem decodeOp_20 : decodeOp 0x20#8 = decNibbles .inrb := rfl
@[simp] theorem decodeOp_21 : decodeOp 0x21#8 = decNibbles .dcrb := rfl
@[simp] theorem decodeOp_22 : decodeOp 0x22#8 = decNibbles .clrb := rfl
@[simp] theorem decodeOp_23 : decodeOp 0x23#8 = decNibbles .ivrb := rfl
@[simp] theorem decodeOp_24 : decodeOp 0x24#8 = decNibbles .srrb := rfl
@[simp] theorem decodeOp_25 : decodeOp 0x25#8 = decNibbles .slrb := rfl
@[simp] theorem decodeOp_26 : decodeOp 0x26#8 = decNibbles .rrrb := rfl
@[simp] theorem decodeOp_27 : decodeOp 0x27#8 = decNibbles .rlrb := rfl
@[simp] theorem decodeOp_28 : decodeOp 0x28#8 = .done .inab := rfl
@[simp] theorem decodeOp_29 : decodeOp 0x29#8 = .done .dcab := rfl
@[simp] theorem decodeOp_2A : decodeOp 0x2A#8 = .done .clab := rfl
@[simp] theorem decodeOp_2B : decodeOp 0x2B#8 = .done .ivab := rfl
@[simp] theorem decodeOp_2C : decodeOp 0x2C#8 = .done .srab := rfl
@[simp] theorem decodeOp_2D : decodeOp 0x2D#8 = .done .slab := rfl
@[simp] theorem decodeOp_2E : decodeOp 0x2E#8 = decMmu := rfl
@[simp] theorem decodeOp_2F : decodeOp 0x2F#8 = decDma := rfl
@[simp] theorem decodeOp_30 : decodeOp 0x30#8 = decUnaryWord .inr .inrOdd := rfl
@[simp] theorem decodeOp_31 : decodeOp 0x31#8 = decUnaryWord .dcr .dcrOdd := rfl
@[simp] theorem decodeOp_32 : decodeOp 0x32#8 = decUnaryWord .clr .clrOdd := rfl
@[simp] theorem decodeOp_33 : decodeOp 0x33#8 = decUnaryWord .ivr .ivrOdd := rfl
@[simp] theorem decodeOp_34 : decodeOp 0x34#8 = decUnaryWord .srr .srrOdd := rfl
@[simp] theorem decodeOp_35 : decodeOp 0x35#8 = decUnaryWord .slr .slrOdd := rfl
@[simp] theorem decodeOp_36 : decodeOp 0x36#8 = decUnaryWord .rrr .rrrOdd := rfl
@[simp] theorem decodeOp_37 : decodeOp 0x37#8 = decUnaryWord .rlr .rlrOdd := rfl
@[simp] theorem decodeOp_38 : decodeOp 0x38#8 = .done .ina := rfl
@[simp] theorem decodeOp_39 : decodeOp 0x39#8 = .done .dca := rfl
@[simp] theorem decodeOp_3A : decodeOp 0x3A#8 = .done .cla := rfl
@[simp] theorem decodeOp_3B : decodeOp 0x3B#8 = .done .iva := rfl
@[simp] theorem decodeOp_3C : decodeOp 0x3C#8 = .done .sra := rfl
@[simp] theorem decodeOp_3D : decodeOp 0x3D#8 = .done .sla := rfl
@[simp] theorem decodeOp_3E : decodeOp 0x3E#8 = decBlock .bcpy := rfl
@[simp] theorem decodeOp_3F : decodeOp 0x3F#8 = decBlock .bcmp := rfl
@[simp] theorem decodeOp_40 : decodeOp 0x40#8 = decNibbles .addb := rfl
@[simp] theorem decodeOp_41 : decodeOp 0x41#8 = decNibbles .subb := rfl
@[simp] theorem decodeOp_42 : decodeOp 0x42#8 = decNibbles .andb := rfl
@[simp] theorem decodeOp_43 : decodeOp 0x43#8 = decNibbles .orib := rfl
@[simp] theorem decodeOp_44 : decodeOp 0x44#8 = decNibbles .oreb := rfl
@[simp] theorem decodeOp_45 : decodeOp 0x45#8 = decNibbles .xfrb := rfl
@[simp] theorem decodeOp_46 : decodeOp 0x46#8 = .done .reserved46 := rfl
@[simp] theorem decodeOp_47 : decodeOp 0x47#8 = .done .reserved47 := rfl
@[simp] theorem decodeOp_48 : decodeOp 0x48#8 = .done .aabb := rfl
@[simp] theorem decodeOp_49 : decodeOp 0x49#8 = .done .sabb := rfl
@[simp] theorem decodeOp_4A : decodeOp 0x4A#8 = .done .nabb := rfl
@[simp] theorem decodeOp_4B : decodeOp 0x4B#8 = .done .xaxb := rfl
@[simp] theorem decodeOp_4C : decodeOp 0x4C#8 = .done .xayb := rfl
@[simp] theorem decodeOp_4D : decodeOp 0x4D#8 = .done .xabb := rfl
@[simp] theorem decodeOp_4E : decodeOp 0x4E#8 = .done .xazb := rfl
@[simp] theorem decodeOp_4F : decodeOp 0x4F#8 = .done .xasb := rfl
@[simp] theorem decodeOp_50 : decodeOp 0x50#8 = decBinaryWord .add .addOddSrc .addOddDst := rfl
@[simp] theorem decodeOp_51 : decodeOp 0x51#8 = decBinaryWord .sub .subOddSrc .subOddDst := rfl
@[simp] theorem decodeOp_52 : decodeOp 0x52#8 = decBinaryWord .and .andOddSrc .andOddDst := rfl
@[simp] theorem decodeOp_53 : decodeOp 0x53#8 = decBinaryWord .ori .oriOddSrc .oriOddDst := rfl
@[simp] theorem decodeOp_54 : decodeOp 0x54#8 = decBinaryWord .ore .oreOddSrc .oreOddDst := rfl
@[simp] theorem decodeOp_55 : decodeOp 0x55#8 = decBinaryWord .xfr .xfrOddSrc .xfrOddDst := rfl
@[simp] theorem decodeOp_56 : decodeOp 0x56#8 = .done .reserved56 := rfl
@[simp] theorem decodeOp_57 : decodeOp 0x57#8 = .done .reserved57 := rfl
@[simp] theorem decodeOp_58 : decodeOp 0x58#8 = .done .aab := rfl
@[simp] theorem decodeOp_59 : decodeOp 0x59#8 = .done .sab := rfl
@[simp] theorem decodeOp_5A : decodeOp 0x5A#8 = .done .nab := rfl
@[simp] theorem decodeOp_5B : decodeOp 0x5B#8 = .done .xax := rfl
@[simp] theorem decodeOp_5C : decodeOp 0x5C#8 = .done .xay := rfl
@[simp] theorem decodeOp_5D : decodeOp 0x5D#8 = .done .xab := rfl
@[simp] theorem decodeOp_5E : decodeOp 0x5E#8 = .done .xaz := rfl
@[simp] theorem decodeOp_5F : decodeOp 0x5F#8 = .done .xas := rfl
@[simp] theorem decodeOp_60 : decodeOp 0x60#8 = decLow .ldx .ldxMm3 .ldxOddIndex .ldxMode6 .ldxMode7 0 := rfl
@[simp] theorem decodeOp_61 : decodeOp 0x61#8 = decLow .ldx .ldxMm3 .ldxOddIndex .ldxMode6 .ldxMode7 1 := rfl
@[simp] theorem decodeOp_62 : decodeOp 0x62#8 = decLow .ldx .ldxMm3 .ldxOddIndex .ldxMode6 .ldxMode7 2 := rfl
@[simp] theorem decodeOp_63 : decodeOp 0x63#8 = decLow .ldx .ldxMm3 .ldxOddIndex .ldxMode6 .ldxMode7 3 := rfl
@[simp] theorem decodeOp_64 : decodeOp 0x64#8 = decLow .ldx .ldxMm3 .ldxOddIndex .ldxMode6 .ldxMode7 4 := rfl
@[simp] theorem decodeOp_65 : decodeOp 0x65#8 = decLow .ldx .ldxMm3 .ldxOddIndex .ldxMode6 .ldxMode7 5 := rfl
@[simp] theorem decodeOp_66 : decodeOp 0x66#8 = decLow .ldx .ldxMm3 .ldxOddIndex .ldxMode6 .ldxMode7 6 := rfl
@[simp] theorem decodeOp_67 : decodeOp 0x67#8 = decLow .ldx .ldxMm3 .ldxOddIndex .ldxMode6 .ldxMode7 7 := rfl
@[simp] theorem decodeOp_68 : decodeOp 0x68#8 = decLow .stx .stxMm3 .stxOddIndex .stxMode6 .stxMode7 0 := rfl
@[simp] theorem decodeOp_69 : decodeOp 0x69#8 = decLow .stx .stxMm3 .stxOddIndex .stxMode6 .stxMode7 1 := rfl
@[simp] theorem decodeOp_6A : decodeOp 0x6A#8 = decLow .stx .stxMm3 .stxOddIndex .stxMode6 .stxMode7 2 := rfl
@[simp] theorem decodeOp_6B : decodeOp 0x6B#8 = decLow .stx .stxMm3 .stxOddIndex .stxMode6 .stxMode7 3 := rfl
@[simp] theorem decodeOp_6C : decodeOp 0x6C#8 = decLow .stx .stxMm3 .stxOddIndex .stxMode6 .stxMode7 4 := rfl
@[simp] theorem decodeOp_6D : decodeOp 0x6D#8 = decLow .stx .stxMm3 .stxOddIndex .stxMode6 .stxMode7 5 := rfl
@[simp] theorem decodeOp_6E : decodeOp 0x6E#8 = decLow .stx .stxMm3 .stxOddIndex .stxMode6 .stxMode7 6 := rfl
@[simp] theorem decodeOp_6F : decodeOp 0x6F#8 = decLow .stx .stxMm3 .stxOddIndex .stxMode6 .stxMode7 7 := rfl
@[simp] theorem decodeOp_70 : decodeOp 0x70#8 = .done .jmpLiteral := rfl
@[simp] theorem decodeOp_71 : decodeOp 0x71#8 = decTail .jmp .jmpMm3 .jmpOddIndex 1 := rfl
@[simp] theorem decodeOp_72 : decodeOp 0x72#8 = decTail .jmp .jmpMm3 .jmpOddIndex 2 := rfl
@[simp] theorem decodeOp_73 : decodeOp 0x73#8 = decTail .jmp .jmpMm3 .jmpOddIndex 3 := rfl
@[simp] theorem decodeOp_74 : decodeOp 0x74#8 = decTail .jmp .jmpMm3 .jmpOddIndex 4 := rfl
@[simp] theorem decodeOp_75 : decodeOp 0x75#8 = decTail .jmp .jmpMm3 .jmpOddIndex 5 := rfl
@[simp] theorem decodeOp_76 : decodeOp 0x76#8 = decByte .jsys := rfl
@[simp] theorem decodeOp_77 : decodeOp 0x77#8 = .done .jumpSub7 := rfl
@[simp] theorem decodeOp_78 : decodeOp 0x78#8 = .done .jsrLiteral := rfl
@[simp] theorem decodeOp_79 : decodeOp 0x79#8 = decTail .jsr .jsrMm3 .jsrOddIndex 1 := rfl
@[simp] theorem decodeOp_7A : decodeOp 0x7A#8 = decTail .jsr .jsrMm3 .jsrOddIndex 2 := rfl
@[simp] theorem decodeOp_7B : decodeOp 0x7B#8 = decTail .jsr .jsrMm3 .jsrOddIndex 3 := rfl
@[simp] theorem decodeOp_7C : decodeOp 0x7C#8 = decTail .jsr .jsrMm3 .jsrOddIndex 4 := rfl
@[simp] theorem decodeOp_7D : decodeOp 0x7D#8 = decTail .jsr .jsrMm3 .jsrOddIndex 5 := rfl
@[simp] theorem decodeOp_7E : decodeOp 0x7E#8 = decNibbles .push := rfl
@[simp] theorem decodeOp_7F : decodeOp 0x7F#8 = decNibbles .pop := rfl
@[simp] theorem decodeOp_80 : decodeOp 0x80#8 = decLow .ldab .ldabMm3 .ldabOddIndex .ldabMode6 .ldabMode7 0 := rfl
@[simp] theorem decodeOp_81 : decodeOp 0x81#8 = decLow .ldab .ldabMm3 .ldabOddIndex .ldabMode6 .ldabMode7 1 := rfl
@[simp] theorem decodeOp_82 : decodeOp 0x82#8 = decLow .ldab .ldabMm3 .ldabOddIndex .ldabMode6 .ldabMode7 2 := rfl
@[simp] theorem decodeOp_83 : decodeOp 0x83#8 = decLow .ldab .ldabMm3 .ldabOddIndex .ldabMode6 .ldabMode7 3 := rfl
@[simp] theorem decodeOp_84 : decodeOp 0x84#8 = decLow .ldab .ldabMm3 .ldabOddIndex .ldabMode6 .ldabMode7 4 := rfl
@[simp] theorem decodeOp_85 : decodeOp 0x85#8 = decLow .ldab .ldabMm3 .ldabOddIndex .ldabMode6 .ldabMode7 5 := rfl
@[simp] theorem decodeOp_86 : decodeOp 0x86#8 = decLow .ldab .ldabMm3 .ldabOddIndex .ldabMode6 .ldabMode7 6 := rfl
@[simp] theorem decodeOp_87 : decodeOp 0x87#8 = decLow .ldab .ldabMm3 .ldabOddIndex .ldabMode6 .ldabMode7 7 := rfl
@[simp] theorem decodeOp_88 : decodeOp 0x88#8 = .done (.ldab (.register .A)) := rfl
@[simp] theorem decodeOp_89 : decodeOp 0x89#8 = .done (.ldab (.register .B)) := rfl
@[simp] theorem decodeOp_8A : decodeOp 0x8A#8 = .done (.ldab (.register .X)) := rfl
@[simp] theorem decodeOp_8B : decodeOp 0x8B#8 = .done (.ldab (.register .Y)) := rfl
@[simp] theorem decodeOp_8C : decodeOp 0x8C#8 = .done (.ldab (.register .Z)) := rfl
@[simp] theorem decodeOp_8D : decodeOp 0x8D#8 = .done (.ldab (.register .S)) := rfl
@[simp] theorem decodeOp_8E : decodeOp 0x8E#8 = .done (.ldab (.register .C)) := rfl
@[simp] theorem decodeOp_8F : decodeOp 0x8F#8 = .done (.ldab (.register .P)) := rfl
@[simp] theorem decodeOp_90 : decodeOp 0x90#8 = decLow .lda .ldaMm3 .ldaOddIndex .ldaMode6 .ldaMode7 0 := rfl
@[simp] theorem decodeOp_91 : decodeOp 0x91#8 = decLow .lda .ldaMm3 .ldaOddIndex .ldaMode6 .ldaMode7 1 := rfl
@[simp] theorem decodeOp_92 : decodeOp 0x92#8 = decLow .lda .ldaMm3 .ldaOddIndex .ldaMode6 .ldaMode7 2 := rfl
@[simp] theorem decodeOp_93 : decodeOp 0x93#8 = decLow .lda .ldaMm3 .ldaOddIndex .ldaMode6 .ldaMode7 3 := rfl
@[simp] theorem decodeOp_94 : decodeOp 0x94#8 = decLow .lda .ldaMm3 .ldaOddIndex .ldaMode6 .ldaMode7 4 := rfl
@[simp] theorem decodeOp_95 : decodeOp 0x95#8 = decLow .lda .ldaMm3 .ldaOddIndex .ldaMode6 .ldaMode7 5 := rfl
@[simp] theorem decodeOp_96 : decodeOp 0x96#8 = decLow .lda .ldaMm3 .ldaOddIndex .ldaMode6 .ldaMode7 6 := rfl
@[simp] theorem decodeOp_97 : decodeOp 0x97#8 = decLow .lda .ldaMm3 .ldaOddIndex .ldaMode6 .ldaMode7 7 := rfl
@[simp] theorem decodeOp_98 : decodeOp 0x98#8 = .done (.lda (.register .A)) := rfl
@[simp] theorem decodeOp_99 : decodeOp 0x99#8 = .done (.lda (.register .B)) := rfl
@[simp] theorem decodeOp_9A : decodeOp 0x9A#8 = .done (.lda (.register .X)) := rfl
@[simp] theorem decodeOp_9B : decodeOp 0x9B#8 = .done (.lda (.register .Y)) := rfl
@[simp] theorem decodeOp_9C : decodeOp 0x9C#8 = .done (.lda (.register .Z)) := rfl
@[simp] theorem decodeOp_9D : decodeOp 0x9D#8 = .done (.lda (.register .S)) := rfl
@[simp] theorem decodeOp_9E : decodeOp 0x9E#8 = .done (.lda (.register .C)) := rfl
@[simp] theorem decodeOp_9F : decodeOp 0x9F#8 = .done (.lda (.register .P)) := rfl
@[simp] theorem decodeOp_A0 : decodeOp 0xA0#8 = decLow .stab .stabMm3 .stabOddIndex .stabMode6 .stabMode7 0 := rfl
@[simp] theorem decodeOp_A1 : decodeOp 0xA1#8 = decLow .stab .stabMm3 .stabOddIndex .stabMode6 .stabMode7 1 := rfl
@[simp] theorem decodeOp_A2 : decodeOp 0xA2#8 = decLow .stab .stabMm3 .stabOddIndex .stabMode6 .stabMode7 2 := rfl
@[simp] theorem decodeOp_A3 : decodeOp 0xA3#8 = decLow .stab .stabMm3 .stabOddIndex .stabMode6 .stabMode7 3 := rfl
@[simp] theorem decodeOp_A4 : decodeOp 0xA4#8 = decLow .stab .stabMm3 .stabOddIndex .stabMode6 .stabMode7 4 := rfl
@[simp] theorem decodeOp_A5 : decodeOp 0xA5#8 = decLow .stab .stabMm3 .stabOddIndex .stabMode6 .stabMode7 5 := rfl
@[simp] theorem decodeOp_A6 : decodeOp 0xA6#8 = decLow .stab .stabMm3 .stabOddIndex .stabMode6 .stabMode7 6 := rfl
@[simp] theorem decodeOp_A7 : decodeOp 0xA7#8 = decLow .stab .stabMm3 .stabOddIndex .stabMode6 .stabMode7 7 := rfl
@[simp] theorem decodeOp_A8 : decodeOp 0xA8#8 = .done (.stab (.register .A)) := rfl
@[simp] theorem decodeOp_A9 : decodeOp 0xA9#8 = .done (.stab (.register .B)) := rfl
@[simp] theorem decodeOp_AA : decodeOp 0xAA#8 = .done (.stab (.register .X)) := rfl
@[simp] theorem decodeOp_AB : decodeOp 0xAB#8 = .done (.stab (.register .Y)) := rfl
@[simp] theorem decodeOp_AC : decodeOp 0xAC#8 = .done (.stab (.register .Z)) := rfl
@[simp] theorem decodeOp_AD : decodeOp 0xAD#8 = .done (.stab (.register .S)) := rfl
@[simp] theorem decodeOp_AE : decodeOp 0xAE#8 = .done (.stab (.register .C)) := rfl
@[simp] theorem decodeOp_AF : decodeOp 0xAF#8 = .done (.stab (.register .P)) := rfl
@[simp] theorem decodeOp_B0 : decodeOp 0xB0#8 = decLow .sta .staMm3 .staOddIndex .staMode6 .staMode7 0 := rfl
@[simp] theorem decodeOp_B1 : decodeOp 0xB1#8 = decLow .sta .staMm3 .staOddIndex .staMode6 .staMode7 1 := rfl
@[simp] theorem decodeOp_B2 : decodeOp 0xB2#8 = decLow .sta .staMm3 .staOddIndex .staMode6 .staMode7 2 := rfl
@[simp] theorem decodeOp_B3 : decodeOp 0xB3#8 = decLow .sta .staMm3 .staOddIndex .staMode6 .staMode7 3 := rfl
@[simp] theorem decodeOp_B4 : decodeOp 0xB4#8 = decLow .sta .staMm3 .staOddIndex .staMode6 .staMode7 4 := rfl
@[simp] theorem decodeOp_B5 : decodeOp 0xB5#8 = decLow .sta .staMm3 .staOddIndex .staMode6 .staMode7 5 := rfl
@[simp] theorem decodeOp_B6 : decodeOp 0xB6#8 = decLow .sta .staMm3 .staOddIndex .staMode6 .staMode7 6 := rfl
@[simp] theorem decodeOp_B7 : decodeOp 0xB7#8 = decLow .sta .staMm3 .staOddIndex .staMode6 .staMode7 7 := rfl
@[simp] theorem decodeOp_B8 : decodeOp 0xB8#8 = .done (.sta (.register .A)) := rfl
@[simp] theorem decodeOp_B9 : decodeOp 0xB9#8 = .done (.sta (.register .B)) := rfl
@[simp] theorem decodeOp_BA : decodeOp 0xBA#8 = .done (.sta (.register .X)) := rfl
@[simp] theorem decodeOp_BB : decodeOp 0xBB#8 = .done (.sta (.register .Y)) := rfl
@[simp] theorem decodeOp_BC : decodeOp 0xBC#8 = .done (.sta (.register .Z)) := rfl
@[simp] theorem decodeOp_BD : decodeOp 0xBD#8 = .done (.sta (.register .S)) := rfl
@[simp] theorem decodeOp_BE : decodeOp 0xBE#8 = .done (.sta (.register .C)) := rfl
@[simp] theorem decodeOp_BF : decodeOp 0xBF#8 = .done (.sta (.register .P)) := rfl
@[simp] theorem decodeOp_C0 : decodeOp 0xC0#8 = decLow .ldbb .ldbbMm3 .ldbbOddIndex .ldbbMode6 .ldbbMode7 0 := rfl
@[simp] theorem decodeOp_C1 : decodeOp 0xC1#8 = decLow .ldbb .ldbbMm3 .ldbbOddIndex .ldbbMode6 .ldbbMode7 1 := rfl
@[simp] theorem decodeOp_C2 : decodeOp 0xC2#8 = decLow .ldbb .ldbbMm3 .ldbbOddIndex .ldbbMode6 .ldbbMode7 2 := rfl
@[simp] theorem decodeOp_C3 : decodeOp 0xC3#8 = decLow .ldbb .ldbbMm3 .ldbbOddIndex .ldbbMode6 .ldbbMode7 3 := rfl
@[simp] theorem decodeOp_C4 : decodeOp 0xC4#8 = decLow .ldbb .ldbbMm3 .ldbbOddIndex .ldbbMode6 .ldbbMode7 4 := rfl
@[simp] theorem decodeOp_C5 : decodeOp 0xC5#8 = decLow .ldbb .ldbbMm3 .ldbbOddIndex .ldbbMode6 .ldbbMode7 5 := rfl
@[simp] theorem decodeOp_C6 : decodeOp 0xC6#8 = decLow .ldbb .ldbbMm3 .ldbbOddIndex .ldbbMode6 .ldbbMode7 6 := rfl
@[simp] theorem decodeOp_C7 : decodeOp 0xC7#8 = decLow .ldbb .ldbbMm3 .ldbbOddIndex .ldbbMode6 .ldbbMode7 7 := rfl
@[simp] theorem decodeOp_C8 : decodeOp 0xC8#8 = .done (.ldbb (.register .A)) := rfl
@[simp] theorem decodeOp_C9 : decodeOp 0xC9#8 = .done (.ldbb (.register .B)) := rfl
@[simp] theorem decodeOp_CA : decodeOp 0xCA#8 = .done (.ldbb (.register .X)) := rfl
@[simp] theorem decodeOp_CB : decodeOp 0xCB#8 = .done (.ldbb (.register .Y)) := rfl
@[simp] theorem decodeOp_CC : decodeOp 0xCC#8 = .done (.ldbb (.register .Z)) := rfl
@[simp] theorem decodeOp_CD : decodeOp 0xCD#8 = .done (.ldbb (.register .S)) := rfl
@[simp] theorem decodeOp_CE : decodeOp 0xCE#8 = .done (.ldbb (.register .C)) := rfl
@[simp] theorem decodeOp_CF : decodeOp 0xCF#8 = .done (.ldbb (.register .P)) := rfl
@[simp] theorem decodeOp_D0 : decodeOp 0xD0#8 = decLow .ldb .ldbMm3 .ldbOddIndex .ldbMode6 .ldbMode7 0 := rfl
@[simp] theorem decodeOp_D1 : decodeOp 0xD1#8 = decLow .ldb .ldbMm3 .ldbOddIndex .ldbMode6 .ldbMode7 1 := rfl
@[simp] theorem decodeOp_D2 : decodeOp 0xD2#8 = decLow .ldb .ldbMm3 .ldbOddIndex .ldbMode6 .ldbMode7 2 := rfl
@[simp] theorem decodeOp_D3 : decodeOp 0xD3#8 = decLow .ldb .ldbMm3 .ldbOddIndex .ldbMode6 .ldbMode7 3 := rfl
@[simp] theorem decodeOp_D4 : decodeOp 0xD4#8 = decLow .ldb .ldbMm3 .ldbOddIndex .ldbMode6 .ldbMode7 4 := rfl
@[simp] theorem decodeOp_D5 : decodeOp 0xD5#8 = decLow .ldb .ldbMm3 .ldbOddIndex .ldbMode6 .ldbMode7 5 := rfl
@[simp] theorem decodeOp_D6 : decodeOp 0xD6#8 = decLow .ldb .ldbMm3 .ldbOddIndex .ldbMode6 .ldbMode7 6 := rfl
@[simp] theorem decodeOp_D7 : decodeOp 0xD7#8 = decLow .ldb .ldbMm3 .ldbOddIndex .ldbMode6 .ldbMode7 7 := rfl
@[simp] theorem decodeOp_D8 : decodeOp 0xD8#8 = .done (.ldb (.register .A)) := rfl
@[simp] theorem decodeOp_D9 : decodeOp 0xD9#8 = .done (.ldb (.register .B)) := rfl
@[simp] theorem decodeOp_DA : decodeOp 0xDA#8 = .done (.ldb (.register .X)) := rfl
@[simp] theorem decodeOp_DB : decodeOp 0xDB#8 = .done (.ldb (.register .Y)) := rfl
@[simp] theorem decodeOp_DC : decodeOp 0xDC#8 = .done (.ldb (.register .Z)) := rfl
@[simp] theorem decodeOp_DD : decodeOp 0xDD#8 = .done (.ldb (.register .S)) := rfl
@[simp] theorem decodeOp_DE : decodeOp 0xDE#8 = .done (.ldb (.register .C)) := rfl
@[simp] theorem decodeOp_DF : decodeOp 0xDF#8 = .done (.ldb (.register .P)) := rfl
@[simp] theorem decodeOp_E0 : decodeOp 0xE0#8 = decLow .stbb .stbbMm3 .stbbOddIndex .stbbMode6 .stbbMode7 0 := rfl
@[simp] theorem decodeOp_E1 : decodeOp 0xE1#8 = decLow .stbb .stbbMm3 .stbbOddIndex .stbbMode6 .stbbMode7 1 := rfl
@[simp] theorem decodeOp_E2 : decodeOp 0xE2#8 = decLow .stbb .stbbMm3 .stbbOddIndex .stbbMode6 .stbbMode7 2 := rfl
@[simp] theorem decodeOp_E3 : decodeOp 0xE3#8 = decLow .stbb .stbbMm3 .stbbOddIndex .stbbMode6 .stbbMode7 3 := rfl
@[simp] theorem decodeOp_E4 : decodeOp 0xE4#8 = decLow .stbb .stbbMm3 .stbbOddIndex .stbbMode6 .stbbMode7 4 := rfl
@[simp] theorem decodeOp_E5 : decodeOp 0xE5#8 = decLow .stbb .stbbMm3 .stbbOddIndex .stbbMode6 .stbbMode7 5 := rfl
@[simp] theorem decodeOp_E6 : decodeOp 0xE6#8 = decLow .stbb .stbbMm3 .stbbOddIndex .stbbMode6 .stbbMode7 6 := rfl
@[simp] theorem decodeOp_E7 : decodeOp 0xE7#8 = decLow .stbb .stbbMm3 .stbbOddIndex .stbbMode6 .stbbMode7 7 := rfl
@[simp] theorem decodeOp_E8 : decodeOp 0xE8#8 = .done (.stbb (.register .A)) := rfl
@[simp] theorem decodeOp_E9 : decodeOp 0xE9#8 = .done (.stbb (.register .B)) := rfl
@[simp] theorem decodeOp_EA : decodeOp 0xEA#8 = .done (.stbb (.register .X)) := rfl
@[simp] theorem decodeOp_EB : decodeOp 0xEB#8 = .done (.stbb (.register .Y)) := rfl
@[simp] theorem decodeOp_EC : decodeOp 0xEC#8 = .done (.stbb (.register .Z)) := rfl
@[simp] theorem decodeOp_ED : decodeOp 0xED#8 = .done (.stbb (.register .S)) := rfl
@[simp] theorem decodeOp_EE : decodeOp 0xEE#8 = .done (.stbb (.register .C)) := rfl
@[simp] theorem decodeOp_EF : decodeOp 0xEF#8 = .done (.stbb (.register .P)) := rfl
@[simp] theorem decodeOp_F0 : decodeOp 0xF0#8 = decLow .stb .stbMm3 .stbOddIndex .stbMode6 .stbMode7 0 := rfl
@[simp] theorem decodeOp_F1 : decodeOp 0xF1#8 = decLow .stb .stbMm3 .stbOddIndex .stbMode6 .stbMode7 1 := rfl
@[simp] theorem decodeOp_F2 : decodeOp 0xF2#8 = decLow .stb .stbMm3 .stbOddIndex .stbMode6 .stbMode7 2 := rfl
@[simp] theorem decodeOp_F3 : decodeOp 0xF3#8 = decLow .stb .stbMm3 .stbOddIndex .stbMode6 .stbMode7 3 := rfl
@[simp] theorem decodeOp_F4 : decodeOp 0xF4#8 = decLow .stb .stbMm3 .stbOddIndex .stbMode6 .stbMode7 4 := rfl
@[simp] theorem decodeOp_F5 : decodeOp 0xF5#8 = decLow .stb .stbMm3 .stbOddIndex .stbMode6 .stbMode7 5 := rfl
@[simp] theorem decodeOp_F6 : decodeOp 0xF6#8 = decLow .stb .stbMm3 .stbOddIndex .stbMode6 .stbMode7 6 := rfl
@[simp] theorem decodeOp_F7 : decodeOp 0xF7#8 = decLow .stb .stbMm3 .stbOddIndex .stbMode6 .stbMode7 7 := rfl
@[simp] theorem decodeOp_F8 : decodeOp 0xF8#8 = .done (.stb (.register .A)) := rfl
@[simp] theorem decodeOp_F9 : decodeOp 0xF9#8 = .done (.stb (.register .B)) := rfl
@[simp] theorem decodeOp_FA : decodeOp 0xFA#8 = .done (.stb (.register .X)) := rfl
@[simp] theorem decodeOp_FB : decodeOp 0xFB#8 = .done (.stb (.register .Y)) := rfl
@[simp] theorem decodeOp_FC : decodeOp 0xFC#8 = .done (.stb (.register .Z)) := rfl
@[simp] theorem decodeOp_FD : decodeOp 0xFD#8 = .done (.stb (.register .S)) := rfl
@[simp] theorem decodeOp_FE : decodeOp 0xFE#8 = .done (.stb (.register .C)) := rfl
@[simp] theorem decodeOp_FF : decodeOp 0xFF#8 = .done (.stb (.register .P)) := rfl

end Sys2Proof.Laws
end

