-- ==== Sys2Proof/Laws/PerInstr.lean ====
section
/-! SUPPORT. The per-instruction family EncodeLength: an instruction is 1 to 6 bytes long (30_encoding.md R100 to R107). -/

namespace Sys2Proof.Laws

theorem tail_length (m : Mode) : m.tail.length ≤ 2 := by
  cases m with
  | indexed r st i d => cases d <;> simp [Mode.tail]
  | _ => simp [Mode.tail]

/-- The encoding has between one and six bytes. -/
def EncodeLength.Statement (i : Instr) : Prop := 1 ≤ (encode i).length ∧ (encode i).length ≤ 6

theorem encodeLength_of {i : Instr} (h : (Nat.ble 1 (encode i).length && Nat.ble (encode i).length 6) = true) :
    EncodeLength.Statement i := by
  simpa [EncodeLength.Statement] using h

theorem encodeLength_mode (op : Byte) (m : Mode) : 1 ≤ (op :: m.tail).length ∧ (op :: m.tail).length ≤ 6 := by
  have := tail_length m
  simp only [List.length_cons]
  omega

theorem EncodeLength.hlt : EncodeLength.Statement .hlt := encodeLength_of rfl
theorem EncodeLength.nop : EncodeLength.Statement .nop := encodeLength_of rfl
theorem EncodeLength.sf : EncodeLength.Statement .sf := encodeLength_of rfl
theorem EncodeLength.rf : EncodeLength.Statement .rf := encodeLength_of rfl
theorem EncodeLength.ei : EncodeLength.Statement .ei := encodeLength_of rfl
theorem EncodeLength.di : EncodeLength.Statement .di := encodeLength_of rfl
theorem EncodeLength.sl : EncodeLength.Statement .sl := encodeLength_of rfl
theorem EncodeLength.rl : EncodeLength.Statement .rl := encodeLength_of rfl
theorem EncodeLength.cl : EncodeLength.Statement .cl := encodeLength_of rfl
theorem EncodeLength.rsr : EncodeLength.Statement .rsr := encodeLength_of rfl
theorem EncodeLength.ri : EncodeLength.Statement .ri := encodeLength_of rfl
theorem EncodeLength.rim : EncodeLength.Statement .rim := encodeLength_of rfl
theorem EncodeLength.cf : EncodeLength.Statement .cf := encodeLength_of rfl
theorem EncodeLength.pcx : EncodeLength.Statement .pcx := encodeLength_of rfl
theorem EncodeLength.dly : EncodeLength.Statement .dly := encodeLength_of rfl
theorem EncodeLength.rsys : EncodeLength.Statement .rsys := encodeLength_of rfl
theorem EncodeLength.bl (disp : Byte) : EncodeLength.Statement (.bl disp) := encodeLength_of rfl
theorem EncodeLength.bnl (disp : Byte) : EncodeLength.Statement (.bnl disp) := encodeLength_of rfl
theorem EncodeLength.bf (disp : Byte) : EncodeLength.Statement (.bf disp) := encodeLength_of rfl
theorem EncodeLength.bnf (disp : Byte) : EncodeLength.Statement (.bnf disp) := encodeLength_of rfl
theorem EncodeLength.bz (disp : Byte) : EncodeLength.Statement (.bz disp) := encodeLength_of rfl
theorem EncodeLength.bnz (disp : Byte) : EncodeLength.Statement (.bnz disp) := encodeLength_of rfl
theorem EncodeLength.bm (disp : Byte) : EncodeLength.Statement (.bm disp) := encodeLength_of rfl
theorem EncodeLength.bp (disp : Byte) : EncodeLength.Statement (.bp disp) := encodeLength_of rfl
theorem EncodeLength.bs1 (disp : Byte) : EncodeLength.Statement (.bs1 disp) := encodeLength_of rfl
theorem EncodeLength.bns1 (disp : Byte) : EncodeLength.Statement (.bns1 disp) := encodeLength_of rfl
theorem EncodeLength.bs2 (disp : Byte) : EncodeLength.Statement (.bs2 disp) := encodeLength_of rfl
theorem EncodeLength.bns2 (disp : Byte) : EncodeLength.Statement (.bns2 disp) := encodeLength_of rfl
theorem EncodeLength.bs3 (disp : Byte) : EncodeLength.Statement (.bs3 disp) := encodeLength_of rfl
theorem EncodeLength.bns3 (disp : Byte) : EncodeLength.Statement (.bns3 disp) := encodeLength_of rfl
theorem EncodeLength.bs4 (disp : Byte) : EncodeLength.Statement (.bs4 disp) := encodeLength_of rfl
theorem EncodeLength.bns4 (disp : Byte) : EncodeLength.Statement (.bns4 disp) := encodeLength_of rfl
theorem EncodeLength.inrb (r : Nibble) (n : Nibble) : EncodeLength.Statement (.inrb r n) := encodeLength_of rfl
theorem EncodeLength.dcrb (r : Nibble) (n : Nibble) : EncodeLength.Statement (.dcrb r n) := encodeLength_of rfl
theorem EncodeLength.clrb (r : Nibble) (n : Nibble) : EncodeLength.Statement (.clrb r n) := encodeLength_of rfl
theorem EncodeLength.ivrb (r : Nibble) (n : Nibble) : EncodeLength.Statement (.ivrb r n) := encodeLength_of rfl
theorem EncodeLength.srrb (r : Nibble) (n : Nibble) : EncodeLength.Statement (.srrb r n) := encodeLength_of rfl
theorem EncodeLength.slrb (r : Nibble) (n : Nibble) : EncodeLength.Statement (.slrb r n) := encodeLength_of rfl
theorem EncodeLength.rrrb (r : Nibble) (n : Nibble) : EncodeLength.Statement (.rrrb r n) := encodeLength_of rfl
theorem EncodeLength.rlrb (r : Nibble) (n : Nibble) : EncodeLength.Statement (.rlrb r n) := encodeLength_of rfl
theorem EncodeLength.inab : EncodeLength.Statement .inab := encodeLength_of rfl
theorem EncodeLength.dcab : EncodeLength.Statement .dcab := encodeLength_of rfl
theorem EncodeLength.clab : EncodeLength.Statement .clab := encodeLength_of rfl
theorem EncodeLength.ivab : EncodeLength.Statement .ivab := encodeLength_of rfl
theorem EncodeLength.srab : EncodeLength.Statement .srab := encodeLength_of rfl
theorem EncodeLength.slab : EncodeLength.Statement .slab := encodeLength_of rfl
theorem EncodeLength.inr (r : WReg) (n : Nibble) : EncodeLength.Statement (.inr r n) := encodeLength_of rfl
theorem EncodeLength.inrOdd (r : BitVec 3) (n : Nibble) : EncodeLength.Statement (.inrOdd r n) := encodeLength_of rfl
theorem EncodeLength.dcr (r : WReg) (n : Nibble) : EncodeLength.Statement (.dcr r n) := encodeLength_of rfl
theorem EncodeLength.dcrOdd (r : BitVec 3) (n : Nibble) : EncodeLength.Statement (.dcrOdd r n) := encodeLength_of rfl
theorem EncodeLength.clr (r : WReg) (n : Nibble) : EncodeLength.Statement (.clr r n) := encodeLength_of rfl
theorem EncodeLength.clrOdd (r : BitVec 3) (n : Nibble) : EncodeLength.Statement (.clrOdd r n) := encodeLength_of rfl
theorem EncodeLength.ivr (r : WReg) (n : Nibble) : EncodeLength.Statement (.ivr r n) := encodeLength_of rfl
theorem EncodeLength.ivrOdd (r : BitVec 3) (n : Nibble) : EncodeLength.Statement (.ivrOdd r n) := encodeLength_of rfl
theorem EncodeLength.srr (r : WReg) (n : Nibble) : EncodeLength.Statement (.srr r n) := encodeLength_of rfl
theorem EncodeLength.srrOdd (r : BitVec 3) (n : Nibble) : EncodeLength.Statement (.srrOdd r n) := encodeLength_of rfl
theorem EncodeLength.slr (r : WReg) (n : Nibble) : EncodeLength.Statement (.slr r n) := encodeLength_of rfl
theorem EncodeLength.slrOdd (r : BitVec 3) (n : Nibble) : EncodeLength.Statement (.slrOdd r n) := encodeLength_of rfl
theorem EncodeLength.rrr (r : WReg) (n : Nibble) : EncodeLength.Statement (.rrr r n) := encodeLength_of rfl
theorem EncodeLength.rrrOdd (r : BitVec 3) (n : Nibble) : EncodeLength.Statement (.rrrOdd r n) := encodeLength_of rfl
theorem EncodeLength.rlr (r : WReg) (n : Nibble) : EncodeLength.Statement (.rlr r n) := encodeLength_of rfl
theorem EncodeLength.rlrOdd (r : BitVec 3) (n : Nibble) : EncodeLength.Statement (.rlrOdd r n) := encodeLength_of rfl
theorem EncodeLength.ina : EncodeLength.Statement .ina := encodeLength_of rfl
theorem EncodeLength.dca : EncodeLength.Statement .dca := encodeLength_of rfl
theorem EncodeLength.cla : EncodeLength.Statement .cla := encodeLength_of rfl
theorem EncodeLength.iva : EncodeLength.Statement .iva := encodeLength_of rfl
theorem EncodeLength.sra : EncodeLength.Statement .sra := encodeLength_of rfl
theorem EncodeLength.sla : EncodeLength.Statement .sla := encodeLength_of rfl
theorem EncodeLength.ldmmu (bank : BitVec 3) (addr : Word) : EncodeLength.Statement (.ldmmu bank addr) :=
    encodeLength_of rfl
theorem EncodeLength.ldmmuBadBank (b : BitVec 3) : EncodeLength.Statement (.ldmmuBadBank b) := encodeLength_of rfl
theorem EncodeLength.stmmu (bank : BitVec 3) (addr : Word) : EncodeLength.Statement (.stmmu bank addr) :=
    encodeLength_of rfl
theorem EncodeLength.stmmuBadBank (b : BitVec 3) : EncodeLength.Statement (.stmmuBadBank b) := encodeLength_of rfl
theorem EncodeLength.reserved2E (code : Nibble) (low : Nibble) : EncodeLength.Statement (.reserved2E code low) :=
    encodeLength_of rfl
theorem EncodeLength.lddma (r : WReg) : EncodeLength.Statement (.lddma r) := encodeLength_of rfl
theorem EncodeLength.lddmaOdd (r : BitVec 3) : EncodeLength.Statement (.lddmaOdd r) := encodeLength_of rfl
theorem EncodeLength.stdma (r : WReg) : EncodeLength.Statement (.stdma r) := encodeLength_of rfl
theorem EncodeLength.stdmaOdd (r : BitVec 3) : EncodeLength.Statement (.stdmaOdd r) := encodeLength_of rfl
theorem EncodeLength.lddmc (r : WReg) : EncodeLength.Statement (.lddmc r) := encodeLength_of rfl
theorem EncodeLength.lddmcOdd (r : BitVec 3) : EncodeLength.Statement (.lddmcOdd r) := encodeLength_of rfl
theorem EncodeLength.stdmc (r : WReg) : EncodeLength.Statement (.stdmc r) := encodeLength_of rfl
theorem EncodeLength.stdmcOdd (r : BitVec 3) : EncodeLength.Statement (.stdmcOdd r) := encodeLength_of rfl
theorem EncodeLength.sdmam (m : Nibble) : EncodeLength.Statement (.sdmam m) := encodeLength_of rfl
theorem EncodeLength.edma : EncodeLength.Statement .edma := encodeLength_of rfl
theorem EncodeLength.edmaPad (pad : Nibble) : EncodeLength.Statement (.edmaPad pad) := encodeLength_of rfl
theorem EncodeLength.ddma : EncodeLength.Statement .ddma := encodeLength_of rfl
theorem EncodeLength.ddmaPad (pad : Nibble) : EncodeLength.Statement (.ddmaPad pad) := encodeLength_of rfl
theorem EncodeLength.reserved2FSub5 (r : Nibble) : EncodeLength.Statement (.reserved2FSub5 r) := encodeLength_of rfl
theorem EncodeLength.reserved2FSub8 (r : Nibble) (code : BitVec 3) : EncodeLength.Statement (.reserved2FSub8 r code) :=
    encodeLength_of rfl
theorem EncodeLength.bcpy (n : Byte) (src : Word) (dst : Word) : EncodeLength.Statement (.bcpy n src dst) :=
    encodeLength_of rfl
theorem EncodeLength.bcmp (n : Byte) (src : Word) (dst : Word) : EncodeLength.Statement (.bcmp n src dst) :=
    encodeLength_of rfl
theorem EncodeLength.addb (src : Nibble) (dst : Nibble) : EncodeLength.Statement (.addb src dst) := encodeLength_of rfl
theorem EncodeLength.subb (src : Nibble) (dst : Nibble) : EncodeLength.Statement (.subb src dst) := encodeLength_of rfl
theorem EncodeLength.andb (src : Nibble) (dst : Nibble) : EncodeLength.Statement (.andb src dst) := encodeLength_of rfl
theorem EncodeLength.orib (src : Nibble) (dst : Nibble) : EncodeLength.Statement (.orib src dst) := encodeLength_of rfl
theorem EncodeLength.oreb (src : Nibble) (dst : Nibble) : EncodeLength.Statement (.oreb src dst) := encodeLength_of rfl
theorem EncodeLength.xfrb (src : Nibble) (dst : Nibble) : EncodeLength.Statement (.xfrb src dst) := encodeLength_of rfl
theorem EncodeLength.reserved46 : EncodeLength.Statement .reserved46 := encodeLength_of rfl
theorem EncodeLength.reserved47 : EncodeLength.Statement .reserved47 := encodeLength_of rfl
theorem EncodeLength.reserved56 : EncodeLength.Statement .reserved56 := encodeLength_of rfl
theorem EncodeLength.reserved57 : EncodeLength.Statement .reserved57 := encodeLength_of rfl
theorem EncodeLength.aabb : EncodeLength.Statement .aabb := encodeLength_of rfl
theorem EncodeLength.sabb : EncodeLength.Statement .sabb := encodeLength_of rfl
theorem EncodeLength.nabb : EncodeLength.Statement .nabb := encodeLength_of rfl
theorem EncodeLength.xaxb : EncodeLength.Statement .xaxb := encodeLength_of rfl
theorem EncodeLength.xayb : EncodeLength.Statement .xayb := encodeLength_of rfl
theorem EncodeLength.xabb : EncodeLength.Statement .xabb := encodeLength_of rfl
theorem EncodeLength.xazb : EncodeLength.Statement .xazb := encodeLength_of rfl
theorem EncodeLength.xasb : EncodeLength.Statement .xasb := encodeLength_of rfl
theorem EncodeLength.add (src : WReg) (dst : WReg) : EncodeLength.Statement (.add src dst) := encodeLength_of rfl
theorem EncodeLength.addOddSrc (src : BitVec 3) (dst : Nibble) : EncodeLength.Statement (.addOddSrc src dst) :=
    encodeLength_of rfl
theorem EncodeLength.addOddDst (src : WReg) (dst : BitVec 3) : EncodeLength.Statement (.addOddDst src dst) :=
    encodeLength_of rfl
theorem EncodeLength.sub (src : WReg) (dst : WReg) : EncodeLength.Statement (.sub src dst) := encodeLength_of rfl
theorem EncodeLength.subOddSrc (src : BitVec 3) (dst : Nibble) : EncodeLength.Statement (.subOddSrc src dst) :=
    encodeLength_of rfl
theorem EncodeLength.subOddDst (src : WReg) (dst : BitVec 3) : EncodeLength.Statement (.subOddDst src dst) :=
    encodeLength_of rfl
theorem EncodeLength.and (src : WReg) (dst : WReg) : EncodeLength.Statement (.and src dst) := encodeLength_of rfl
theorem EncodeLength.andOddSrc (src : BitVec 3) (dst : Nibble) : EncodeLength.Statement (.andOddSrc src dst) :=
    encodeLength_of rfl
theorem EncodeLength.andOddDst (src : WReg) (dst : BitVec 3) : EncodeLength.Statement (.andOddDst src dst) :=
    encodeLength_of rfl
theorem EncodeLength.ori (src : WReg) (dst : WReg) : EncodeLength.Statement (.ori src dst) := encodeLength_of rfl
theorem EncodeLength.oriOddSrc (src : BitVec 3) (dst : Nibble) : EncodeLength.Statement (.oriOddSrc src dst) :=
    encodeLength_of rfl
theorem EncodeLength.oriOddDst (src : WReg) (dst : BitVec 3) : EncodeLength.Statement (.oriOddDst src dst) :=
    encodeLength_of rfl
theorem EncodeLength.ore (src : WReg) (dst : WReg) : EncodeLength.Statement (.ore src dst) := encodeLength_of rfl
theorem EncodeLength.oreOddSrc (src : BitVec 3) (dst : Nibble) : EncodeLength.Statement (.oreOddSrc src dst) :=
    encodeLength_of rfl
theorem EncodeLength.oreOddDst (src : WReg) (dst : BitVec 3) : EncodeLength.Statement (.oreOddDst src dst) :=
    encodeLength_of rfl
theorem EncodeLength.xfr (src : WReg) (dst : WReg) : EncodeLength.Statement (.xfr src dst) := encodeLength_of rfl
theorem EncodeLength.xfrOddSrc (src : BitVec 3) (dst : Nibble) : EncodeLength.Statement (.xfrOddSrc src dst) :=
    encodeLength_of rfl
theorem EncodeLength.xfrOddDst (src : WReg) (dst : BitVec 3) : EncodeLength.Statement (.xfrOddDst src dst) :=
    encodeLength_of rfl
theorem EncodeLength.aab : EncodeLength.Statement .aab := encodeLength_of rfl
theorem EncodeLength.sab : EncodeLength.Statement .sab := encodeLength_of rfl
theorem EncodeLength.nab : EncodeLength.Statement .nab := encodeLength_of rfl
theorem EncodeLength.xax : EncodeLength.Statement .xax := encodeLength_of rfl
theorem EncodeLength.xay : EncodeLength.Statement .xay := encodeLength_of rfl
theorem EncodeLength.xab : EncodeLength.Statement .xab := encodeLength_of rfl
theorem EncodeLength.xaz : EncodeLength.Statement .xaz := encodeLength_of rfl
theorem EncodeLength.xas : EncodeLength.Statement .xas := encodeLength_of rfl
theorem EncodeLength.ldx (m : Mode) : EncodeLength.Statement (.ldx m) := encodeLength_mode _ m
theorem EncodeLength.ldxMm3 (hi : BitVec 6) : EncodeLength.Statement (.ldxMm3 hi) := encodeLength_of rfl
theorem EncodeLength.ldxOddIndex (r : BitVec 3) (d : Bool) (ind : Bool) (st : IdxStep) : EncodeLength.Statement (.ldxOddIndex r d ind st) :=
    encodeLength_of rfl
theorem EncodeLength.ldxMode6 : EncodeLength.Statement .ldxMode6 := encodeLength_of rfl
theorem EncodeLength.ldxMode7 : EncodeLength.Statement .ldxMode7 := encodeLength_of rfl
theorem EncodeLength.stx (m : Mode) : EncodeLength.Statement (.stx m) := encodeLength_mode _ m
theorem EncodeLength.stxMm3 (hi : BitVec 6) : EncodeLength.Statement (.stxMm3 hi) := encodeLength_of rfl
theorem EncodeLength.stxOddIndex (r : BitVec 3) (d : Bool) (ind : Bool) (st : IdxStep) : EncodeLength.Statement (.stxOddIndex r d ind st) :=
    encodeLength_of rfl
theorem EncodeLength.stxMode6 : EncodeLength.Statement .stxMode6 := encodeLength_of rfl
theorem EncodeLength.stxMode7 : EncodeLength.Statement .stxMode7 := encodeLength_of rfl
theorem EncodeLength.ldab (m : Mode) : EncodeLength.Statement (.ldab m) := encodeLength_mode _ m
theorem EncodeLength.ldabMm3 (hi : BitVec 6) : EncodeLength.Statement (.ldabMm3 hi) := encodeLength_of rfl
theorem EncodeLength.ldabOddIndex (r : BitVec 3) (d : Bool) (ind : Bool) (st : IdxStep) : EncodeLength.Statement (.ldabOddIndex r d ind st) :=
    encodeLength_of rfl
theorem EncodeLength.ldabMode6 : EncodeLength.Statement .ldabMode6 := encodeLength_of rfl
theorem EncodeLength.ldabMode7 : EncodeLength.Statement .ldabMode7 := encodeLength_of rfl
theorem EncodeLength.lda (m : Mode) : EncodeLength.Statement (.lda m) := encodeLength_mode _ m
theorem EncodeLength.ldaMm3 (hi : BitVec 6) : EncodeLength.Statement (.ldaMm3 hi) := encodeLength_of rfl
theorem EncodeLength.ldaOddIndex (r : BitVec 3) (d : Bool) (ind : Bool) (st : IdxStep) : EncodeLength.Statement (.ldaOddIndex r d ind st) :=
    encodeLength_of rfl
theorem EncodeLength.ldaMode6 : EncodeLength.Statement .ldaMode6 := encodeLength_of rfl
theorem EncodeLength.ldaMode7 : EncodeLength.Statement .ldaMode7 := encodeLength_of rfl
theorem EncodeLength.stab (m : Mode) : EncodeLength.Statement (.stab m) := encodeLength_mode _ m
theorem EncodeLength.stabMm3 (hi : BitVec 6) : EncodeLength.Statement (.stabMm3 hi) := encodeLength_of rfl
theorem EncodeLength.stabOddIndex (r : BitVec 3) (d : Bool) (ind : Bool) (st : IdxStep) : EncodeLength.Statement (.stabOddIndex r d ind st) :=
    encodeLength_of rfl
theorem EncodeLength.stabMode6 : EncodeLength.Statement .stabMode6 := encodeLength_of rfl
theorem EncodeLength.stabMode7 : EncodeLength.Statement .stabMode7 := encodeLength_of rfl
theorem EncodeLength.sta (m : Mode) : EncodeLength.Statement (.sta m) := encodeLength_mode _ m
theorem EncodeLength.staMm3 (hi : BitVec 6) : EncodeLength.Statement (.staMm3 hi) := encodeLength_of rfl
theorem EncodeLength.staOddIndex (r : BitVec 3) (d : Bool) (ind : Bool) (st : IdxStep) : EncodeLength.Statement (.staOddIndex r d ind st) :=
    encodeLength_of rfl
theorem EncodeLength.staMode6 : EncodeLength.Statement .staMode6 := encodeLength_of rfl
theorem EncodeLength.staMode7 : EncodeLength.Statement .staMode7 := encodeLength_of rfl
theorem EncodeLength.ldbb (m : Mode) : EncodeLength.Statement (.ldbb m) := encodeLength_mode _ m
theorem EncodeLength.ldbbMm3 (hi : BitVec 6) : EncodeLength.Statement (.ldbbMm3 hi) := encodeLength_of rfl
theorem EncodeLength.ldbbOddIndex (r : BitVec 3) (d : Bool) (ind : Bool) (st : IdxStep) : EncodeLength.Statement (.ldbbOddIndex r d ind st) :=
    encodeLength_of rfl
theorem EncodeLength.ldbbMode6 : EncodeLength.Statement .ldbbMode6 := encodeLength_of rfl
theorem EncodeLength.ldbbMode7 : EncodeLength.Statement .ldbbMode7 := encodeLength_of rfl
theorem EncodeLength.ldb (m : Mode) : EncodeLength.Statement (.ldb m) := encodeLength_mode _ m
theorem EncodeLength.ldbMm3 (hi : BitVec 6) : EncodeLength.Statement (.ldbMm3 hi) := encodeLength_of rfl
theorem EncodeLength.ldbOddIndex (r : BitVec 3) (d : Bool) (ind : Bool) (st : IdxStep) : EncodeLength.Statement (.ldbOddIndex r d ind st) :=
    encodeLength_of rfl
theorem EncodeLength.ldbMode6 : EncodeLength.Statement .ldbMode6 := encodeLength_of rfl
theorem EncodeLength.ldbMode7 : EncodeLength.Statement .ldbMode7 := encodeLength_of rfl
theorem EncodeLength.stbb (m : Mode) : EncodeLength.Statement (.stbb m) := encodeLength_mode _ m
theorem EncodeLength.stbbMm3 (hi : BitVec 6) : EncodeLength.Statement (.stbbMm3 hi) := encodeLength_of rfl
theorem EncodeLength.stbbOddIndex (r : BitVec 3) (d : Bool) (ind : Bool) (st : IdxStep) : EncodeLength.Statement (.stbbOddIndex r d ind st) :=
    encodeLength_of rfl
theorem EncodeLength.stbbMode6 : EncodeLength.Statement .stbbMode6 := encodeLength_of rfl
theorem EncodeLength.stbbMode7 : EncodeLength.Statement .stbbMode7 := encodeLength_of rfl
theorem EncodeLength.stb (m : Mode) : EncodeLength.Statement (.stb m) := encodeLength_mode _ m
theorem EncodeLength.stbMm3 (hi : BitVec 6) : EncodeLength.Statement (.stbMm3 hi) := encodeLength_of rfl
theorem EncodeLength.stbOddIndex (r : BitVec 3) (d : Bool) (ind : Bool) (st : IdxStep) : EncodeLength.Statement (.stbOddIndex r d ind st) :=
    encodeLength_of rfl
theorem EncodeLength.stbMode6 : EncodeLength.Statement .stbMode6 := encodeLength_of rfl
theorem EncodeLength.stbMode7 : EncodeLength.Statement .stbMode7 := encodeLength_of rfl
theorem EncodeLength.jmp (m : Mode) : EncodeLength.Statement (.jmp m) := encodeLength_mode _ m
theorem EncodeLength.jmpMm3 (hi : BitVec 6) : EncodeLength.Statement (.jmpMm3 hi) := encodeLength_of rfl
theorem EncodeLength.jmpOddIndex (r : BitVec 3) (d : Bool) (ind : Bool) (st : IdxStep) : EncodeLength.Statement (.jmpOddIndex r d ind st) :=
    encodeLength_of rfl
theorem EncodeLength.jmpLiteral : EncodeLength.Statement .jmpLiteral := encodeLength_of rfl
theorem EncodeLength.jsys (arg : Byte) : EncodeLength.Statement (.jsys arg) := encodeLength_of rfl
theorem EncodeLength.jumpSub7 : EncodeLength.Statement .jumpSub7 := encodeLength_of rfl
theorem EncodeLength.jsr (m : Mode) : EncodeLength.Statement (.jsr m) := encodeLength_mode _ m
theorem EncodeLength.jsrMm3 (hi : BitVec 6) : EncodeLength.Statement (.jsrMm3 hi) := encodeLength_of rfl
theorem EncodeLength.jsrOddIndex (r : BitVec 3) (d : Bool) (ind : Bool) (st : IdxStep) : EncodeLength.Statement (.jsrOddIndex r d ind st) :=
    encodeLength_of rfl
theorem EncodeLength.jsrLiteral : EncodeLength.Statement .jsrLiteral := encodeLength_of rfl
theorem EncodeLength.push (r : Nibble) (n : Nibble) : EncodeLength.Statement (.push r n) := encodeLength_of rfl
theorem EncodeLength.pop (r : Nibble) (n : Nibble) : EncodeLength.Statement (.pop r n) := encodeLength_of rfl

end Sys2Proof.Laws
end

