-- ==== Sys2Proof/Laws/Shared.lean ====
section
/-! SUPPORT. What each shared operation of Ops and Operands does, said once: fetch, the stack, interrupts, the address
resolver, the loops. The provers cite these instead of unfolding the operation. -/

namespace Sys2Proof.Laws

open Sys2Proof.Machine

/-! ### Fetch -/

/-- A fetch from no device answers the byte at PC and moves PC on; nothing else changes (10_state.md R26). -/
theorem fetch8_quiet {s : State} (h : isDevice s s.pc = false) :
    fetch8 s = (readByte s s.pc, { s with pc := s.pc + 1 }) := by
  simp [fetch8, memRead8_quiet h]

/-- A tree that accepts the bytes standing at PC, none of them a device's, answers its instruction with PC past them. -/
theorem fetchDec_quiet (bytes : List Byte) {d : Dec} {i : Instr} {s : State}
    (hrun : d.run bytes = .ok (i, []))
    (hread : ∀ k (hk : k < bytes.length), readByte s (s.pc + BitVec.ofNat 16 k) = bytes[k] ∧
      isDevice s (s.pc + BitVec.ofNat 16 k) = false) :
    fetchDec d s = (i, { s with pc := s.pc + BitVec.ofNat 16 bytes.length }) := by
  induction bytes generalizing d s with
  | nil =>
    cases d with
    | done j =>
      simp only [Dec.run, Except.ok.injEq, Prod.mk.injEq, and_true] at hrun
      subst hrun
      simp [fetchDec]
    | byte k => simp [Dec.run] at hrun
  | cons b rest ih =>
    cases d with
    | done j => simp [Dec.run] at hrun
    | byte k =>
      have h0 := hread 0 (by simp)
      simp only [BitVec.add_zero, List.getElem_cons_zero] at h0
      simp only [fetchDec, fetch8_quiet h0.2, h0.1]
      have step : ∀ j : Nat, s.pc + 1 + BitVec.ofNat 16 j = s.pc + BitVec.ofNat 16 (j + 1) := fun j => by
        apply BitVec.eq_of_toNat_eq; simp; omega
      rw [ih (by simpa [Dec.run] using hrun) ?_]
      · exact congrArg (fun p => (i, { s with pc := p })) (step rest.length)
      · intro j hj
        have := hread (j + 1) (by simpa using hj)
        simp only [step]
        constructor
        · rw [readByte_congr (s := s)] <;> first | rfl | simpa using this.1
        · rw [isDevice_congr (s := s)] <;> first | rfl | exact this.2

/-! ### The stack -/

/-- A pop from a quiet byte answers it and raises S by one; nothing else changes (20_memory.md R82). -/
theorem pop8_quiet {s : State} (h : isDevice s (getXw s .S) = false) :
    pop8 s = (readByte s (getXw s .S), setXw s .S (getXw s .S + 1)) := by
  simp only [pop8, memRead8_quiet h]

/-- A pop of a word from two quiet bytes answers it, high byte first, and raises S by two (20_memory.md R83). -/
theorem pop16_quiet {s : State} (h : isDevice s (getXw s .S) = false) (h1 : isDevice s (getXw s .S + 1) = false) :
    pop16 s = (wordOf (readByte s (getXw s .S)) (readByte s (getXw s .S + 1)), setXw s .S (getXw s .S + 2)) := by
  simp only [pop16, memRead16_quiet h h1]

/-- Outside the register file the bytes of a register write stay as they were. -/
theorem readByte_setXw_quiet {s : State} {a : Word} (r : WReg) (v : Word) (h : isQuiet s a = true) :
    readByte (setXw s r v) a = readByte s a :=
  readByte_outside (by simp) (by simp) (by simp) (by simp) h

theorem isQuiet_congr {s t : State} (hp : t.pt = s.pt) (hm : t.mb = s.mb) (hr : t.regions = s.regions) (a : Word) :
    isQuiet t a = isQuiet s a := by
  simp only [isQuiet, isDevice_congr hp hm hr]

/-- RAM lies outside the register file. -/
theorem ram_above {s : State} {a : Word} (h : isRam s a = true) : 0x100 ≤ a.toNat := by
  have := ram_quiet h
  simp only [isQuiet, Bool.and_eq_true, decide_eq_true_eq] at this
  exact this.1

/-- A byte pushed onto RAM: S is one lower, the registers are otherwise as before, the byte is at the new S
(20_memory.md R80). -/
theorem push8_ram {s : State} (v : Byte) (hw : Memory.wf s.mem = true) (h : isRam s (getXw s .S - 1) = true) :
    (push8 v s).sram = (setXw s .S (getXw s .S - 1)).sram ∧ readByte (push8 v s) (getXw s .S - 1) = v ∧
      (push8 v s).devLog = s.devLog := by
  have h' : isRam (setXw s .S (getXw s .S - 1)) (getXw s .S - 1) = true := by
    rw [isRam_congr (s := s) (by simp) (by simp) (by simp)]; exact h
  refine ⟨sram_memWrite8 _ (ram_above h), ?_, ?_⟩
  · exact readByte_memWrite8_same _ (by simpa using hw) (ram_writable h') rfl
  · simpa [push8] using devLog_memWrite8 (s := setXw s .S (getXw s .S - 1)) v (writable_not_device (ram_writable h'))

/-! ### The register forms of the ALU -/

/-- A byte register written with FLAGS, once for every byte law: that register, those flags and nothing else. -/
theorem aluByte_set (s : State) (r : Nibble) (v : Byte) (fl : FlagNibble) :
    AluByte s { setX s r v with flags := fl } r v := by
  refine ⟨getX_setX s r v, rfl, fun a ha => ?_⟩
  unfold readByte
  rw [show resolve { setX s r v with flags := fl } a = resolve s a from resolve_congr (by simp) (by simp) a]
  cases h : resolve s a with
  | phys p => simp [physByte]
  | sram i =>
    refine sramByte_setSramByte_ne s v fun e => ha ?_
    unfold resolve at h
    split at h
    · rename_i hlt
      cases h
      apply BitVec.eq_of_toNat_eq
      have := congrArg BitVec.toNat e
      simp only [regAddr, BitVec.truncate_eq_setWidth, BitVec.toNat_setWidth, BitVec.extractLsb'_toNat,
        Nat.shiftRight_zero] at this ⊢
      omega
    · cases h

/-- A word register written with FLAGS, once for every word law. -/
theorem aluWord_set (s : State) (r : WReg) (v : Word) (fl : FlagNibble) :
    AluWord s { setXw s r v with flags := fl } r v := by
  refine ⟨getXw_setXw s r v, rfl, fun a h1 h2 => ?_⟩
  have lo := (aluByte_set (setX s r.hi (hiByte v)) r.lo (loByte v) fl).2.2 a (by simpa [regAddr] using h2)
  have hi := (aluByte_set s r.hi (hiByte v) s.flags).2.2 a h1
  exact lo.trans hi

/-! ### Interrupts -/

/-- An interrupt that is not accepted changes nothing (60_exceptions.md R404). -/
theorem trigger_refused {s : State} {level : Nat} (h : interruptAccepted s (BitVec.ofNat 4 level) = false) :
    triggerInterrupt level s = s := by
  simp [triggerInterrupt, h]

/-- Acceptance in numbers (60_exceptions.md R402, R403). -/
theorem accepted_iff (s : State) (level : Nat) :
    interruptAccepted s (BitVec.ofNat 4 level) = true ↔ s.ie = true ∧ s.ipl.toNat < level % 16 := by
  simp [interruptAccepted]

/-- Banks do not share a byte: a register write of one bank leaves every other bank alone (10_state.md R22). -/
theorem sramByte_setX_bank {s : State} {k i j : Nibble} (v : Byte) (h : k ≠ s.ipl) :
    sramByte (setX s j v) (regIndex k i) = sramByte s (regIndex k i) :=
  sramByte_setSramByte_ne _ _ fun e => h (regIndex_inj.mp e).1

/-! ### Addresses and loops -/

/-- Only the literal mode moves PC in computing an address (45_load_store.md R319). -/
theorem effAddr_pc {m : Mode} (z : Size) (s : State) (h : m ≠ .literal) : (effAddr m z s).2.pc = s.pc := by
  cases m with
  | literal => exact absurd rfl h
  | direct a => rfl
  | indirect a => simp [effAddr]
  | relative d => rfl
  | relIndirect d => simp [effAddr]
  | indexed r st i d => simp [effAddr]
  | register r => rfl

/-- A loop of LDMMU leaves the other banks alone (43_mmu_dma_block.md R241). -/
theorem ptEntry_loadTable_ne {b c : BitVec 3} (h : c ≠ b) (f : BitVec 5) (k : Nat) (e : BitVec 5) (a : Word)
    (s : State) : ptEntry (loadTable b k e a s) c f = ptEntry s c f := by
  induction k generalizing e a s with
  | zero => rfl
  | succ n ih =>
    simp only [loadTable]
    rw [ih, ptEntry_setPtEntry_ne (h := Or.inl h)]
    simp [ptEntry]

/-- Bytes outside the block a copy writes, and no device's, keep their value (43_mmu_dma_block.md R251). -/
theorem readByte_blockCopy_ne {b : Word} (k : Nat) (src dst : Word) (s : State) (hd : isDevice s b = false)
    (h : ∀ i < k, resolve s b ≠ resolve s (dst + BitVec.ofNat 16 i)) :
    readByte (blockCopy k src dst s) b = readByte s b := by
  induction k generalizing src dst s with
  | zero => rfl
  | succ n ih =>
    have step : ∀ j : Nat, dst + 1 + BitVec.ofNat 16 j = dst + BitVec.ofNat 16 (j + 1) := fun j => by
      apply BitVec.eq_of_toNat_eq; simp; omega
    have hr : ∀ a, resolve (memWrite8 dst (memRead8 src s).1 (memRead8 src s).2) a = resolve s a :=
      fun a => resolve_congr (by simp) (by simp) a
    simp only [blockCopy]
    rw [ih]
    · have h0 := h 0 (by omega)
      simp only [BitVec.add_zero] at h0
      have hq : ∀ a, resolve (memRead8 src s).2 a = resolve s a := fun a => resolve_congr (by simp) (by simp) a
      rw [readByte_memWrite8_ne _ (by rw [hq, hq]; exact h0)
        (by rw [isDevice_congr (s := s) (by simp) (by simp) (by simp)]; exact hd)]
      exact readByte_quiet (by simp) (by simp) (by simp) (by simp) (by simp) hd
    · rw [isDevice_congr (s := s) (by simp) (by simp) (by simp)]; exact hd
    · intro i hi
      rw [hr, hr, step]
      exact h (i + 1) (by omega)

/-- A copy of one more byte is the copy so far, then one byte read and written in the state it left
(43_mmu_dma_block.md R251). -/
theorem blockCopy_succ (k : Nat) (src dst : Word) (s : State) :
    blockCopy (k + 1) src dst s =
      let r := memRead8 (src + BitVec.ofNat 16 k) (blockCopy k src dst s)
      memWrite8 (dst + BitVec.ofNat 16 k) r.1 r.2 := by
  induction k generalizing src dst s with
  | zero => simp [blockCopy]
  | succ n ih =>
    have step : ∀ a : Word, a + 1 + BitVec.ofNat 16 n = a + BitVec.ofNat 16 (n + 1) := fun a => by
      apply BitVec.eq_of_toNat_eq; simp; omega
    rw [blockCopy, ih, step, step, ← blockCopy]

/-! ### Reset and Fatal -/

/-- Reset from any host's side gives a core at its reset values (70_reset_and_hazards.md R450). -/
theorem coreReset_resetFrom (h : HostSide) : CoreReset (resetFrom h) := by
  have entry : ∀ e : Fin 32, State.resetBank[e] =
      if e.val ≤ 29 then BitVec.ofNat 8 e.val else if e.val = 30 then 0x7E else 0x7F := by decide
  refine ⟨rfl, rfl, rfl, rfl, rfl, rfl, rfl, rfl, rfl, rfl, rfl, fun i => ?_, fun b e => ?_⟩
  · simp [resetFrom, State.resetWith, sramByte]
  · have := entry e.toFin
    simp only [ptEntry, resetFrom, State.resetWith, Vector.getElem_replicate]
    simpa using this

/-- The host's side of a core just reset is the one it was reset beside. -/
@[simp] theorem hostSide_resetFrom (h : HostSide) : hostSide (resetFrom h) = h := rfl

/-- A step that answers a state leaves the machine in it. -/
theorem takeTurn_step_next {s t : State} (h : step s = .next t) : takeTurn .step (.defined s) = .next (.defined t) := by
  simp [takeTurn, stepTurn, h]

/-- A Fatal step leaves the host's side, as the fetches left it (60_exceptions.md R401, 30_encoding.md R120). -/
theorem takeTurn_step_fatal {s : State} {r : Fault} (h : step s = .fault r) :
    takeTurn .step (.defined s) = .next (.afterFatal r (hostSide (fetchInstr s).2)) := by
  simp [takeTurn, stepTurn, h]

end Sys2Proof.Laws
end

