-- ==== Sys2Proof/Tests/Slice0.lean ====
section
/-! SUPPORT. Tests: what WellFormed refuses, every constructor's decoding, one step per instruction, and witnesses for the
hypotheses of the obligations. Expected results come from the spec: the encoding tables of 30_encoding.md and the vectors
of 95_test_vectors.md, which are worked from the rules. -/

namespace Sys2Proof.Tests

open Sys2Proof.Machine

set_option Elab.async false
set_option maxRecDepth 20000

/-! ### Helpers -/

/-- The defaults of 95_test_vectors.md: PC = 0x0200, RAM at physical 0x00000 to 0x3FFFF. -/
def base : State := { State.reset with pc := 0x0200, regions := [{ start := 0, length := 0x40000, kind := .ram }] }

/-- Bytes placed from a logical address on. -/
def put (a : Word) (bytes : List Byte) (s : State) : State := placeBytes s a bytes

/-- Bytes of the register file set, by SRAM index. -/
def regs (l : List (Byte × Byte)) (s : State) : State := l.foldl (fun u p => setSramByte u p.1 p.2) s

/-- Whether one step gives a next state with a property. -/
def after (s : State) (p : State → Bool) : Bool :=
  match step s with
  | .next t => p t
  | _ => false

/-- Whether one step ends in a Fatal reason. -/
def fatal (s : State) (r : Fault) : Bool :=
  match step s with
  | .fault q => decide (q = r)
  | _ => false

/-- Whether each list of bytes decodes to its instruction, all bytes used. -/
def words (l : List (List Byte × Instr)) : Bool :=
  l.all fun p =>
    match decode p.1 with
    | .ok (i, []) => decide (i = p.2) && i.wf
    | _ => false

/-! ### WellFormed refuses -/

theorem test_wf_no_register_mode_x :
    Instr.wf (.ldx (.register .A)) = false ∧ Instr.wf (.stx (.register .P)) = false := by decide

theorem test_wf_no_literal_target : Instr.wf (.jmp .literal) = false ∧ Instr.wf (.jsr .literal) = false := by decide

theorem test_wf_no_register_target :
    Instr.wf (.jmp (.register .X)) = false ∧ Instr.wf (.jsr (.register .S)) = false := by decide

theorem test_wf_reserved2E_code : Instr.wf (.reserved2E 0 3) = false ∧ Instr.wf (.reserved2E 1 0) = false := by decide

theorem test_wf_pad : Instr.wf (.edmaPad 0) = false ∧ Instr.wf (.ddmaPad 0) = false := by decide

/-! ### Decoding: words written out from the tables of 30_encoding.md -/

theorem test_decode_control : words
    [([0x00], .hlt), ([0x01], .nop), ([0x02], .sf), ([0x03], .rf), ([0x04], .ei), ([0x05], .di), ([0x06], .sl),
     ([0x07], .rl), ([0x08], .cl), ([0x09], .rsr), ([0x0A], .ri), ([0x0B], .rim), ([0x0C], .cf), ([0x0D], .pcx),
     ([0x0E], .dly), ([0x0F], .rsys)] = true := by decide

theorem test_decode_branch : words
    [([0x10, 0x81], .bl 0x81), ([0x11, 0x82], .bnl 0x82), ([0x12, 0x83], .bf 0x83), ([0x13, 0x84], .bnf 0x84),
     ([0x14, 0x85], .bz 0x85), ([0x15, 0x86], .bnz 0x86), ([0x16, 0x87], .bm 0x87), ([0x17, 0x88], .bp 0x88),
     ([0x18, 0x89], .bs1 0x89), ([0x19, 0x8A], .bns1 0x8A), ([0x1A, 0x8B], .bs2 0x8B), ([0x1B, 0x8C], .bns2 0x8C),
     ([0x1C, 0x8D], .bs3 0x8D), ([0x1D, 0x8E], .bns3 0x8E), ([0x1E, 0x8F], .bs4 0x8F), ([0x1F, 0x90], .bns4 0x90)] = true := by decide

theorem test_decode_unary_byte : words
    [([0x20, 0x70], .inrb 7 0), ([0x21, 0x81], .dcrb 8 1), ([0x22, 0x92], .clrb 9 2), ([0x23, 0xA3], .ivrb 10 3),
     ([0x24, 0xB4], .srrb 11 4), ([0x25, 0xC5], .slrb 12 5), ([0x26, 0xD6], .rrrb 13 6), ([0x27, 0xE7], .rlrb 14 7),
     ([0x28], .inab), ([0x29], .dcab), ([0x2A], .clab), ([0x2B], .ivab), ([0x2C], .srab), ([0x2D], .slab)] = true := by decide

theorem test_decode_unary_word : words
    [([0x30, 0x0F], .inr .A 15), ([0x31, 0x2E], .dcr .B 14), ([0x32, 0x4D], .clr .X 13), ([0x33, 0x6C], .ivr .Y 12),
     ([0x34, 0x8B], .srr .Z 11), ([0x35, 0xAA], .slr .S 10), ([0x36, 0xC9], .rrr .C 9), ([0x37, 0xE8], .rlr .P 8),
     ([0x38], .ina), ([0x39], .dca), ([0x3A], .cla), ([0x3B], .iva), ([0x3C], .sra), ([0x3D], .sla),
     ([0x30, 0x1F], .inrOdd 0 15), ([0x31, 0x3E], .dcrOdd 1 14), ([0x32, 0x5D], .clrOdd 2 13),
     ([0x33, 0x7C], .ivrOdd 3 12), ([0x34, 0x9B], .srrOdd 4 11), ([0x35, 0xBA], .slrOdd 5 10),
     ([0x36, 0xD9], .rrrOdd 6 9), ([0x37, 0xF8], .rlrOdd 7 8)] = true := by decide

theorem test_decode_system : words
    [([0x2E, 0x05, 0x12, 0x34], .ldmmu 5 0x1234), ([0x2E, 0x17, 0x00, 0xFF], .stmmu 7 0x00FF),
     ([0x2E, 0x09], .ldmmuBadBank 1), ([0x2E, 0x1F], .stmmuBadBank 7), ([0x2E, 0x23], .reserved2E 2 3),
     ([0x2E, 0xF0], .reserved2E 15 0), ([0x2F, 0x40], .lddma .X), ([0x2F, 0x61], .stdma .Y),
     ([0x2F, 0xE2], .lddmc .P), ([0x2F, 0xA3], .stdmc .S), ([0x2F, 0xB4], .sdmam 11), ([0x2F, 0x06], .edma),
     ([0x2F, 0x07], .ddma), ([0x2F, 0x50], .lddmaOdd 2), ([0x2F, 0x71], .stdmaOdd 3), ([0x2F, 0xF2], .lddmcOdd 7),
     ([0x2F, 0x13], .stdmcOdd 0), ([0x2F, 0x16], .edmaPad 1), ([0x2F, 0xF7], .ddmaPad 15),
     ([0x2F, 0x35], .reserved2FSub5 3), ([0x2F, 0x48], .reserved2FSub8 4 0), ([0x2F, 0x0F], .reserved2FSub8 0 7),
     ([0x3E, 0xFF, 0x20, 0x00, 0x30, 0x01], .bcpy 0xFF 0x2000 0x3001),
     ([0x3F, 0x00, 0x40, 0xFF, 0x5A, 0x00], .bcmp 0x00 0x40FF 0x5A00)] = true := by decide

theorem test_decode_binary_byte : words
    [([0x40, 0x1E], .addb 1 14), ([0x41, 0x2D], .subb 2 13), ([0x42, 0x3C], .andb 3 12), ([0x43, 0x4B], .orib 4 11),
     ([0x44, 0x5A], .oreb 5 10), ([0x45, 0x69], .xfrb 6 9), ([0x46], .reserved46), ([0x47], .reserved47),
     ([0x48], .aabb), ([0x49], .sabb), ([0x4A], .nabb), ([0x4B], .xaxb), ([0x4C], .xayb), ([0x4D], .xabb),
     ([0x4E], .xazb), ([0x4F], .xasb)] = true := by decide

theorem test_decode_binary_word : words
    [([0x50, 0x0E], .add .A .P), ([0x51, 0x2C], .sub .B .C), ([0x52, 0x4A], .and .X .S), ([0x53, 0x68], .ori .Y .Z),
     ([0x54, 0x86], .ore .Z .Y), ([0x55, 0xA4], .xfr .S .X), ([0x50, 0x19], .addOddSrc 0 9),
     ([0x51, 0x38], .subOddSrc 1 8), ([0x52, 0x57], .andOddSrc 2 7), ([0x53, 0x76], .oriOddSrc 3 6),
     ([0x54, 0x95], .oreOddSrc 4 5), ([0x55, 0xB4], .xfrOddSrc 5 4), ([0x50, 0x0F], .addOddDst .A 7),
     ([0x51, 0x2D], .subOddDst .B 6), ([0x52, 0x4B], .andOddDst .X 5), ([0x53, 0x69], .oriOddDst .Y 4),
     ([0x54, 0x87], .oreOddDst .Z 3), ([0x55, 0xA5], .xfrOddDst .S 2), ([0x56], .reserved56), ([0x57], .reserved57),
     ([0x58], .aab), ([0x59], .sab), ([0x5A], .nab), ([0x5B], .xax), ([0x5C], .xay), ([0x5D], .xab), ([0x5E], .xaz),
     ([0x5F], .xas)] = true := by decide

theorem test_decode_load_store_x : words
    [([0x60], .ldx .literal), ([0x61, 0x12, 0x34], .ldx (.direct 0x1234)),
     ([0x62, 0xAB, 0xCD], .ldx (.indirect 0xABCD)), ([0x63, 0xFD], .ldx (.relative 0xFD)),
     ([0x64, 0x05], .ldx (.relIndirect 0x05)), ([0x65, 0x60], .ldx (.indexed .Y .plain false none)),
     ([0x65, 0xCD, 0x7F], .ldx (.indexed .C .postInc true (some 0x7F))), ([0x65, 0xAB], .ldxMm3 0x2A),
     ([0x65, 0x3A], .ldxOddIndex 1 true false .preDec), ([0x66], .ldxMode6), ([0x67], .ldxMode7),
     ([0x68], .stx .literal), ([0x69, 0x12, 0x34], .stx (.direct 0x1234)),
     ([0x6A, 0xAB, 0xCD], .stx (.indirect 0xABCD)), ([0x6B, 0xFD], .stx (.relative 0xFD)),
     ([0x6C, 0x05], .stx (.relIndirect 0x05)), ([0x6D, 0x60], .stx (.indexed .Y .plain false none)),
     ([0x6D, 0xCD, 0x7F], .stx (.indexed .C .postInc true (some 0x7F))), ([0x6D, 0xAB], .stxMm3 0x2A),
     ([0x6D, 0x3A], .stxOddIndex 1 true false .preDec), ([0x6E], .stxMode6), ([0x6F], .stxMode7)] = true := by decide

theorem test_decode_load_a : words
    [([0x80], .ldab .literal), ([0x81, 0x12, 0x34], .ldab (.direct 0x1234)),
     ([0x82, 0xAB, 0xCD], .ldab (.indirect 0xABCD)), ([0x83, 0xFD], .ldab (.relative 0xFD)),
     ([0x84, 0x05], .ldab (.relIndirect 0x05)), ([0x85, 0x60], .ldab (.indexed .Y .plain false none)),
     ([0x85, 0xCD, 0x7F], .ldab (.indexed .C .postInc true (some 0x7F))), ([0x88], .ldab (.register .A)),
     ([0x8A], .ldab (.register .X)), ([0x8F], .ldab (.register .P)), ([0x85, 0xAB], .ldabMm3 0x2A),
     ([0x85, 0x3A], .ldabOddIndex 1 true false .preDec), ([0x86], .ldabMode6), ([0x87], .ldabMode7),
     ([0x90], .lda .literal), ([0x91, 0x12, 0x34], .lda (.direct 0x1234)),
     ([0x92, 0xAB, 0xCD], .lda (.indirect 0xABCD)), ([0x93, 0xFD], .lda (.relative 0xFD)),
     ([0x94, 0x05], .lda (.relIndirect 0x05)), ([0x95, 0x60], .lda (.indexed .Y .plain false none)),
     ([0x95, 0xCD, 0x7F], .lda (.indexed .C .postInc true (some 0x7F))), ([0x98], .lda (.register .A)),
     ([0x9A], .lda (.register .X)), ([0x9F], .lda (.register .P)), ([0x95, 0xAB], .ldaMm3 0x2A),
     ([0x95, 0x3A], .ldaOddIndex 1 true false .preDec), ([0x96], .ldaMode6), ([0x97], .ldaMode7)] = true := by decide

theorem test_decode_store_a : words
    [([0xA0], .stab .literal), ([0xA1, 0x12, 0x34], .stab (.direct 0x1234)),
     ([0xA2, 0xAB, 0xCD], .stab (.indirect 0xABCD)), ([0xA3, 0xFD], .stab (.relative 0xFD)),
     ([0xA4, 0x05], .stab (.relIndirect 0x05)), ([0xA5, 0x60], .stab (.indexed .Y .plain false none)),
     ([0xA5, 0xCD, 0x7F], .stab (.indexed .C .postInc true (some 0x7F))), ([0xA8], .stab (.register .A)),
     ([0xAA], .stab (.register .X)), ([0xAF], .stab (.register .P)), ([0xA5, 0xAB], .stabMm3 0x2A),
     ([0xA5, 0x3A], .stabOddIndex 1 true false .preDec), ([0xA6], .stabMode6), ([0xA7], .stabMode7),
     ([0xB0], .sta .literal), ([0xB1, 0x12, 0x34], .sta (.direct 0x1234)),
     ([0xB2, 0xAB, 0xCD], .sta (.indirect 0xABCD)), ([0xB3, 0xFD], .sta (.relative 0xFD)),
     ([0xB4, 0x05], .sta (.relIndirect 0x05)), ([0xB5, 0x60], .sta (.indexed .Y .plain false none)),
     ([0xB5, 0xCD, 0x7F], .sta (.indexed .C .postInc true (some 0x7F))), ([0xB8], .sta (.register .A)),
     ([0xBA], .sta (.register .X)), ([0xBF], .sta (.register .P)), ([0xB5, 0xAB], .staMm3 0x2A),
     ([0xB5, 0x3A], .staOddIndex 1 true false .preDec), ([0xB6], .staMode6), ([0xB7], .staMode7)] = true := by decide

theorem test_decode_load_b : words
    [([0xC0], .ldbb .literal), ([0xC1, 0x12, 0x34], .ldbb (.direct 0x1234)),
     ([0xC2, 0xAB, 0xCD], .ldbb (.indirect 0xABCD)), ([0xC3, 0xFD], .ldbb (.relative 0xFD)),
     ([0xC4, 0x05], .ldbb (.relIndirect 0x05)), ([0xC5, 0x60], .ldbb (.indexed .Y .plain false none)),
     ([0xC5, 0xCD, 0x7F], .ldbb (.indexed .C .postInc true (some 0x7F))), ([0xC8], .ldbb (.register .A)),
     ([0xCA], .ldbb (.register .X)), ([0xCF], .ldbb (.register .P)), ([0xC5, 0xAB], .ldbbMm3 0x2A),
     ([0xC5, 0x3A], .ldbbOddIndex 1 true false .preDec), ([0xC6], .ldbbMode6), ([0xC7], .ldbbMode7),
     ([0xD0], .ldb .literal), ([0xD1, 0x12, 0x34], .ldb (.direct 0x1234)),
     ([0xD2, 0xAB, 0xCD], .ldb (.indirect 0xABCD)), ([0xD3, 0xFD], .ldb (.relative 0xFD)),
     ([0xD4, 0x05], .ldb (.relIndirect 0x05)), ([0xD5, 0x60], .ldb (.indexed .Y .plain false none)),
     ([0xD5, 0xCD, 0x7F], .ldb (.indexed .C .postInc true (some 0x7F))), ([0xD8], .ldb (.register .A)),
     ([0xDA], .ldb (.register .X)), ([0xDF], .ldb (.register .P)), ([0xD5, 0xAB], .ldbMm3 0x2A),
     ([0xD5, 0x3A], .ldbOddIndex 1 true false .preDec), ([0xD6], .ldbMode6), ([0xD7], .ldbMode7)] = true := by decide

theorem test_decode_store_b : words
    [([0xE0], .stbb .literal), ([0xE1, 0x12, 0x34], .stbb (.direct 0x1234)),
     ([0xE2, 0xAB, 0xCD], .stbb (.indirect 0xABCD)), ([0xE3, 0xFD], .stbb (.relative 0xFD)),
     ([0xE4, 0x05], .stbb (.relIndirect 0x05)), ([0xE5, 0x60], .stbb (.indexed .Y .plain false none)),
     ([0xE5, 0xCD, 0x7F], .stbb (.indexed .C .postInc true (some 0x7F))), ([0xE8], .stbb (.register .A)),
     ([0xEA], .stbb (.register .X)), ([0xEF], .stbb (.register .P)), ([0xE5, 0xAB], .stbbMm3 0x2A),
     ([0xE5, 0x3A], .stbbOddIndex 1 true false .preDec), ([0xE6], .stbbMode6), ([0xE7], .stbbMode7),
     ([0xF0], .stb .literal), ([0xF1, 0x12, 0x34], .stb (.direct 0x1234)),
     ([0xF2, 0xAB, 0xCD], .stb (.indirect 0xABCD)), ([0xF3, 0xFD], .stb (.relative 0xFD)),
     ([0xF4, 0x05], .stb (.relIndirect 0x05)), ([0xF5, 0x60], .stb (.indexed .Y .plain false none)),
     ([0xF5, 0xCD, 0x7F], .stb (.indexed .C .postInc true (some 0x7F))), ([0xF8], .stb (.register .A)),
     ([0xFA], .stb (.register .X)), ([0xFF], .stb (.register .P)), ([0xF5, 0xAB], .stbMm3 0x2A),
     ([0xF5, 0x3A], .stbOddIndex 1 true false .preDec), ([0xF6], .stbMode6), ([0xF7], .stbMode7)] = true := by decide

theorem test_decode_jump : words
    [([0x71, 0x12, 0x34], .jmp (.direct 0x1234)), ([0x72, 0xAB, 0xCD], .jmp (.indirect 0xABCD)),
     ([0x73, 0xFD], .jmp (.relative 0xFD)), ([0x74, 0x05], .jmp (.relIndirect 0x05)),
     ([0x75, 0x60], .jmp (.indexed .Y .plain false none)),
     ([0x75, 0xCD, 0x7F], .jmp (.indexed .C .postInc true (some 0x7F))), ([0x75, 0xAB], .jmpMm3 0x2A),
     ([0x75, 0x3A], .jmpOddIndex 1 true false .preDec), ([0x79, 0x12, 0x34], .jsr (.direct 0x1234)),
     ([0x7A, 0xAB, 0xCD], .jsr (.indirect 0xABCD)), ([0x7B, 0xFD], .jsr (.relative 0xFD)),
     ([0x7C, 0x05], .jsr (.relIndirect 0x05)), ([0x7D, 0x60], .jsr (.indexed .Y .plain false none)),
     ([0x7D, 0xCD, 0x7F], .jsr (.indexed .C .postInc true (some 0x7F))), ([0x7D, 0xAB], .jsrMm3 0x2A),
     ([0x7D, 0x3A], .jsrOddIndex 1 true false .preDec), ([0x70], .jmpLiteral), ([0x78], .jsrLiteral),
     ([0x77], .jumpSub7), ([0x76, 0xC3], .jsys 0xC3), ([0x7E, 0xA3], .push 10 3), ([0x7F, 0x0F], .pop 0 15)] = true := by decide

theorem test_decode_truncated : decode [] = .error .truncated ∧ decode [0x91, 0x12] = .error .truncated := by decide

/-- The opcode table numbers the opcode in bits 15:8: NOP is 0x0100, `XFR A,X` is 0x5504. -/
theorem test_table_word : decodeTableWord 16 0x0100 = some .nop ∧ decodeTableWord 8 0x01 = some .nop ∧
    decodeTableWord 16 0x5504 = some (.xfr .A .X) := by decide

/-- The instruction placed is the one the next step runs, as the first after reset: 0x0D00, PCX at 0xFC00. -/
theorem test_first_instruction : after (State.reset.withFetchWord 16 0x0D00) (fun t => getXw t .X == 0xFC01) = true := by
  decide

/-! ### One step of each instruction -/

/-- 95_test_vectors.md VC1. -/
theorem test_hlt_VC1 : after (put 0x0200 [0x00] base)
    (fun t => t.pc == 0x0201 && t.halted && t.opcount == 1) = true := by decide

/-- 95_test_vectors.md VC2: a halted core does nothing. -/
theorem test_halted_VC2 : after (put 0x0200 [0x01] { base with halted := true })
    (fun t => t.pc == 0x0200 && t.opcount == 0) = true := by decide

/-- 95_test_vectors.md S4, its load: entries 0, 1 and 31 of the bank. -/
theorem test_ldmmu_S4 : after (put 0x2000 [0x03, 0x0A] (put 0x201F [0xDC] (put 0x0200 [0x2E, 0x05, 0x20, 0x00] base)))
    (fun t => t.pc == 0x0204 && ptEntry t 5 0 == 0x03 && ptEntry t 5 1 == 0x0A && ptEntry t 5 31 == 0xDC) = true := by
  decide

/-- 95_test_vectors.md VC3. -/
theorem test_nop_VC3 : after (put 0x0200 [0x01] { base with flags := 0b1111 })
    (fun t => t.pc == 0x0201 && t.flags == 0b1111) = true := by decide

/-- 95_test_vectors.md VC5. -/
theorem test_sf_VC5 : after (put 0x0200 [0x02] { base with flags := 0b1001 })
    (fun t => t.pc == 0x0201 && t.flags == 0b1011) = true := by decide

/-- 95_test_vectors.md VC7. -/
theorem test_rf_VC7 : after (put 0x0200 [0x03] { base with flags := 0b1111 })
    (fun t => t.pc == 0x0201 && t.flags == 0b1101) = true := by decide

/-- 95_test_vectors.md VC14. -/
theorem test_ei_VC14 : after (put 0x0200 [0x04] base)
    (fun t => t.pc == 0x0201 && t.ie == true) = true := by decide

/-- 95_test_vectors.md VC15. -/
theorem test_di_VC15 : after (put 0x0200 [0x05] { base with ie := true })
    (fun t => t.pc == 0x0201 && t.ie == false) = true := by decide

/-- 95_test_vectors.md VC10. -/
theorem test_sl_VC10 : after (put 0x0200 [0x06] { base with flags := 0b1110 })
    (fun t => t.pc == 0x0201 && t.flags == 0b1111) = true := by decide

/-- 95_test_vectors.md VC11. -/
theorem test_rl_VC11 : after (put 0x0200 [0x07] { base with flags := 0b1111 })
    (fun t => t.pc == 0x0201 && t.flags == 0b1110) = true := by decide

/-- 95_test_vectors.md VC12. -/
theorem test_cl_VC12 : after (put 0x0200 [0x08] { base with flags := 0b1000 })
    (fun t => t.pc == 0x0201 && t.flags == 0b1001) = true := by decide

/-- 95_test_vectors.md VC18. -/
theorem test_rsr_VC18 : after (put 0x0FFE [0x12, 0x34] (put 0x0200 [0x09] (regs [(0x04, 0x03), (0x05, 0x05), (0x0A,
      0x0F), (0x0B, 0xFE)] base)))
    (fun t => t.pc == 0x0305 && sramByte t 0x04 == 0x12 && sramByte t 0x05 == 0x34 && sramByte t 0x0A == 0x10 &&
      sramByte t 0x0B == 0x00) = true := by decide

/-- 95_test_vectors.md VC21. -/
theorem test_ri_VC21 : after (put 0x0200 [0x0A] (regs [(0x5D, 0x20), (0x2C, 0x90), (0x2E, 0x04), (0x2F, 0x56)]
      { base with ipl := 5, flags := 0b0110 }))
    (fun t => t.pc == 0x0456 && t.flags == 0b1001 && t.ipl == 2) = true := by decide

/-- 95_test_vectors.md VC22. -/
theorem test_rim_VC22 : after (put 0x0200 [0x0B] (regs [(0x5D, 0x2F), (0x2C, 0x9F), (0x2E, 0x04), (0x2F, 0x56)]
      { base with ipl := 5, flags := 0b0110 }))
    (fun t => t.pc == 0x0456 && t.flags == 0b1001 && t.ipl == 2) = true := by decide

/-- 95_test_vectors.md VC8. -/
theorem test_cf_VC8 : after (put 0x0200 [0x0C] { base with flags := 0b1010 })
    (fun t => t.pc == 0x0201 && t.flags == 0b1000) = true := by decide

/-- 95_test_vectors.md VC17. -/
theorem test_pcx_VC17 : after (put 0xFFFF [0x0D] (regs [(0x04, 0x12), (0x05, 0x34)]
      { base with pc := 0xFFFF, flags := 0b1000 }))
    (fun t => t.pc == 0x0000 && t.flags == 0b1000 && sramByte t 0x04 == 0x00 &&
      sramByte t 0x05 == 0x00) = true := by decide

/-- 95_test_vectors.md VC4. -/
theorem test_dly_VC4 : after (put 0x0200 [0x0E] { base with flags := 0b0101 })
    (fun t => t.pc == 0x0201 && t.flags == 0b0101) = true := by decide

/-- 95_test_vectors.md VC26. -/
theorem test_rsys_VC26 : after (put 0x0FFB [0x05, 0x12, 0x34, 0x12, 0xFB] (put 0x0200 [0x0F] (regs [(0x04, 0x04),
      (0x05, 0x03), (0x0A, 0x0F), (0x0B, 0xFB)] { base with mb := 0 })))
    (fun t => t.pc == 0x0403 && t.ipl == 2 && t.mb == 3 && sramByte t 0x04 == 0x12 && sramByte t 0x05 == 0x34 &&
      sramByte t 0x0A == 0x10 && sramByte t 0x0B == 0x00) = true := by decide

/-- 95_test_vectors.md VB1. -/
theorem test_bl_VB1 : after (put 0x0200 [0x10, 0x10] { base with flags := 0b0001 })
    (fun t => t.pc == 0x0212) = true := by decide

/-- 95_test_vectors.md VB27. -/
theorem test_bnl_VB27 : after (put 0xFFFF [0x11] (regs [(0x00, 0x02)] { base with pc := 0xFFFF }))
    (fun t => t.pc == 0x0003) = true := by decide

/-- 95_test_vectors.md VB5. -/
theorem test_bf_VB5 : after (put 0x0200 [0x12, 0xF0] { base with flags := 0b0010 })
    (fun t => t.pc == 0x01F2) = true := by decide

/-- 95_test_vectors.md VB6. -/
theorem test_bnf_VB6 : after (put 0x0200 [0x13, 0xF0] { base with flags := 0b0010 })
    (fun t => t.pc == 0x0202) = true := by decide

/-- 95_test_vectors.md VB7. -/
theorem test_bz_VB7 : after (put 0x0200 [0x14, 0x7F] { base with flags := 0b1000 })
    (fun t => t.pc == 0x0281) = true := by decide

/-- 95_test_vectors.md VB9. -/
theorem test_bnz_VB9 : after (put 0x0200 [0x15, 0x80] { base with flags := 0b0000 })
    (fun t => t.pc == 0x0182) = true := by decide

/-- 95_test_vectors.md VB11. -/
theorem test_bm_VB11 : after (put 0x0200 [0x16, 0x02] { base with flags := 0b0100 })
    (fun t => t.pc == 0x0204) = true := by decide

/-- 95_test_vectors.md VB12. -/
theorem test_bp_VB12 : after (put 0x0200 [0x17, 0x02] { base with flags := 0b0100 })
    (fun t => t.pc == 0x0202) = true := by decide

/-- 95_test_vectors.md VB14. -/
theorem test_bs1_VB14 : after (put 0x0200 [0x18, 0x05] { base with sw := 0b0001 })
    (fun t => t.pc == 0x0207) = true := by decide

/-- 95_test_vectors.md VB16. -/
theorem test_bns1_VB16 : after (put 0x0200 [0x19, 0x05] { base with sw := 0b0000 })
    (fun t => t.pc == 0x0207) = true := by decide

/-- 95_test_vectors.md VB17. -/
theorem test_bs2_VB17 : after (put 0x0200 [0x1A, 0x05] { base with sw := 0b0010 })
    (fun t => t.pc == 0x0207) = true := by decide

/-- 95_test_vectors.md VB18. -/
theorem test_bns2_VB18 : after (put 0x0200 [0x1B, 0x05] { base with sw := 0b0010 })
    (fun t => t.pc == 0x0202) = true := by decide

/-- 95_test_vectors.md VB19. -/
theorem test_bs3_VB19 : after (put 0x0200 [0x1C, 0x05] { base with sw := 0b0100 })
    (fun t => t.pc == 0x0207) = true := by decide

/-- 95_test_vectors.md VB20. -/
theorem test_bns3_VB20 : after (put 0x0200 [0x1D, 0x05] { base with sw := 0b1011 })
    (fun t => t.pc == 0x0207) = true := by decide

/-- 95_test_vectors.md VB21. -/
theorem test_bs4_VB21 : after (put 0x0200 [0x1E, 0x05] { base with sw := 0b1000 })
    (fun t => t.pc == 0x0207) = true := by decide

/-- 95_test_vectors.md VB22. -/
theorem test_bns4_VB22 : after (put 0x0200 [0x1F, 0x05] { base with sw := 0b1000 })
    (fun t => t.pc == 0x0202) = true := by decide

/-- 95_test_vectors.md VU1. -/
theorem test_inrb_VU1 : after (put 0x0200 [0x20, 0x10] (regs [(0x01, 0xFF)] { base with flags := 0b0000 }))
    (fun t => t.pc == 0x0202 && t.flags == 0b1000 && sramByte t 0x01 == 0x00) = true := by decide

/-- 95_test_vectors.md VU5. -/
theorem test_dcrb_VU5 : after (put 0x0200 [0x21, 0x10] (regs [(0x01, 0x01)] { base with flags := 0b0111 }))
    (fun t => t.pc == 0x0202 && t.flags == 0b1011 && sramByte t 0x01 == 0x00) = true := by decide

/-- 95_test_vectors.md VU7. -/
theorem test_clrb_VU7 : after (put 0x0200 [0x22, 0x0F] (regs [(0x00, 0x80)] { base with flags := 0b0111 }))
    (fun t => t.pc == 0x0202 && t.flags == 0b1011 && sramByte t 0x00 == 0x00) = true := by decide

/-- 95_test_vectors.md VU8. -/
theorem test_ivrb_VU8 : after (put 0x0200 [0x23, 0x10] (regs [(0x01, 0xFF)] base))
    (fun t => t.pc == 0x0202 && t.flags == 0b1000 && sramByte t 0x01 == 0x00) = true := by decide

/-- 95_test_vectors.md VU11. -/
theorem test_srrb_VU11 : after (put 0x0200 [0x24, 0x10] (regs [(0x01, 0x01)] { base with flags := 0b0010 }))
    (fun t => t.pc == 0x0202 && t.flags == 0b1011 && sramByte t 0x01 == 0x00) = true := by decide

/-- 95_test_vectors.md VU17. -/
theorem test_slrb_VU17 : after (put 0x0200 [0x25, 0x10] (regs [(0x01, 0xC0)] { base with flags := 0b0010 }))
    (fun t => t.pc == 0x0202 && t.flags == 0b0101 && sramByte t 0x01 == 0x80) = true := by decide

/-- 95_test_vectors.md VU21. -/
theorem test_rrrb_VU21 : after (put 0x0200 [0x26, 0x10] (regs [(0x01, 0x01)] { base with flags := 0b0000 }))
    (fun t => t.pc == 0x0202 && t.flags == 0b1001 && sramByte t 0x01 == 0x00) = true := by decide

/-- 95_test_vectors.md VU25. -/
theorem test_rlrb_VU25 : after (put 0x0200 [0x27, 0x10] (regs [(0x01, 0x80)] { base with flags := 0b0000 }))
    (fun t => t.pc == 0x0202 && t.flags == 0b1001 && sramByte t 0x01 == 0x00) = true := by decide

/-- 95_test_vectors.md VU28. -/
theorem test_inab_VU28 : after (put 0x0200 [0x28] (regs [(0x00, 0x12), (0x01, 0xFF)] base))
    (fun t => t.pc == 0x0201 && t.flags == 0b1000 && sramByte t 0x00 == 0x12 &&
      sramByte t 0x01 == 0x00) = true := by decide

/-- 95_test_vectors.md VU29. -/
theorem test_dcab_VU29 : after (put 0x0200 [0x29] (regs [(0x00, 0x12), (0x01, 0x00)] base))
    (fun t => t.pc == 0x0201 && t.flags == 0b0100 && sramByte t 0x00 == 0x12 &&
      sramByte t 0x01 == 0xFF) = true := by decide

/-- 95_test_vectors.md VU30. -/
theorem test_clab_VU30 : after (put 0x0200 [0x2A] (regs [(0x00, 0x12), (0x01, 0x34)] { base with flags := 0b0111 }))
    (fun t => t.pc == 0x0201 && t.flags == 0b1011 && sramByte t 0x00 == 0x12 &&
      sramByte t 0x01 == 0x00) = true := by decide

/-- 95_test_vectors.md VU31. -/
theorem test_ivab_VU31 : after (put 0x0200 [0x2B] (regs [(0x00, 0x12), (0x01, 0xF0)] base))
    (fun t => t.pc == 0x0201 && sramByte t 0x00 == 0x12 && sramByte t 0x01 == 0x0F) = true := by decide

/-- 95_test_vectors.md VU32. -/
theorem test_srab_VU32 : after (put 0x0200 [0x2C] (regs [(0x00, 0x00), (0x01, 0x03)] base))
    (fun t => t.pc == 0x0201 && t.flags == 0b0001 && sramByte t 0x00 == 0x00 &&
      sramByte t 0x01 == 0x01) = true := by decide

/-- 95_test_vectors.md VU33. -/
theorem test_slab_VU33 : after (put 0x0200 [0x2D] (regs [(0x00, 0x00), (0x01, 0x40)] base))
    (fun t => t.pc == 0x0201 && t.flags == 0b0110 && sramByte t 0x00 == 0x00 &&
      sramByte t 0x01 == 0x80) = true := by decide

/-- 95_test_vectors.md VU34. -/
theorem test_inr_VU34 : after (put 0x0200 [0x30, 0x00] (regs [(0x00, 0xFF), (0x01, 0xFF)]
      { base with flags := 0b0000 }))
    (fun t => t.pc == 0x0202 && t.flags == 0b1000 && sramByte t 0x00 == 0x00 &&
      sramByte t 0x01 == 0x00) = true := by decide

/-- 95_test_vectors.md VU38. -/
theorem test_dcr_VU38 : after (put 0x0200 [0x31, 0x20] (regs [(0x02, 0x80), (0x03, 0x00)]
      { base with flags := 0b0101 }))
    (fun t => t.pc == 0x0202 && t.flags == 0b0001 && sramByte t 0x02 == 0x7F &&
      sramByte t 0x03 == 0xFF) = true := by decide

/-- 95_test_vectors.md VU39. -/
theorem test_clr_VU39 : after (put 0x0200 [0x32, 0x67] (regs [(0x06, 0xBE), (0x07, 0xEF)]
      { base with flags := 0b0101 }))
    (fun t => t.pc == 0x0202 && t.flags == 0b1001 && sramByte t 0x06 == 0x00 &&
      sramByte t 0x07 == 0x00) = true := by decide

/-- 95_test_vectors.md VU41. -/
theorem test_ivr_VU41 : after (put 0x0200 [0x33, 0x00] (regs [(0x00, 0xFF), (0x01, 0xFF)]
      { base with flags := 0b0011 }))
    (fun t => t.pc == 0x0202 && t.flags == 0b1011 && sramByte t 0x00 == 0x00 &&
      sramByte t 0x01 == 0x00) = true := by decide

/-- 95_test_vectors.md VU45. -/
theorem test_srr_VU45 : after (put 0x0200 [0x34, 0x0F] (regs [(0x00, 0x40), (0x01, 0x00)]
      { base with flags := 0b0001 }))
    (fun t => t.pc == 0x0202 && t.flags == 0b1000 && sramByte t 0x00 == 0x00 &&
      sramByte t 0x01 == 0x00) = true := by decide

/-- 95_test_vectors.md VU48. -/
theorem test_slr_VU48 : after (put 0x0200 [0x35, 0x03] (regs [(0x00, 0x01), (0x01, 0x23)]
      { base with flags := 0b0010 }))
    (fun t => t.pc == 0x0202 && t.flags == 0b0000 && sramByte t 0x00 == 0x12 &&
      sramByte t 0x01 == 0x30) = true := by decide

/-- 95_test_vectors.md VU51. -/
theorem test_rrr_VU51 : after (put 0x0200 [0x36, 0x00] (regs [(0x00, 0x00), (0x01, 0x00)]
      { base with flags := 0b0001 }))
    (fun t => t.pc == 0x0202 && t.flags == 0b0100 && sramByte t 0x00 == 0x80 &&
      sramByte t 0x01 == 0x00) = true := by decide

/-- 95_test_vectors.md VU54. -/
theorem test_rlr_VU54 : after (put 0x0200 [0x37, 0x0F] (regs [(0x00, 0x80), (0x01, 0x01)]
      { base with flags := 0b0000 }))
    (fun t => t.pc == 0x0202 && t.flags == 0b0001 && sramByte t 0x00 == 0x40 &&
      sramByte t 0x01 == 0x00) = true := by decide

/-- 95_test_vectors.md VU55. -/
theorem test_ina_VU55 : after (put 0x0200 [0x38] (regs [(0x00, 0x00), (0x01, 0xFF)] base))
    (fun t => t.pc == 0x0201 && sramByte t 0x00 == 0x01 && sramByte t 0x01 == 0x00) = true := by decide

/-- 95_test_vectors.md VU56. -/
theorem test_dca_VU56 : after (put 0x0200 [0x39] (regs [(0x00, 0x00), (0x01, 0x00)] base))
    (fun t => t.pc == 0x0201 && t.flags == 0b0100 && sramByte t 0x00 == 0xFF &&
      sramByte t 0x01 == 0xFF) = true := by decide

/-- 95_test_vectors.md VU57. -/
theorem test_cla_VU57 : after (put 0x0200 [0x3A] (regs [(0x00, 0xFF), (0x01, 0xFF)] { base with flags := 0b0100 }))
    (fun t => t.pc == 0x0201 && t.flags == 0b1000 && sramByte t 0x00 == 0x00 &&
      sramByte t 0x01 == 0x00) = true := by decide

/-- 95_test_vectors.md VU58. -/
theorem test_iva_VU58 : after (put 0x0200 [0x3B] (regs [(0x00, 0x00), (0x01, 0x00)] base))
    (fun t => t.pc == 0x0201 && t.flags == 0b0100 && sramByte t 0x00 == 0xFF &&
      sramByte t 0x01 == 0xFF) = true := by decide

/-- 95_test_vectors.md VU59. -/
theorem test_sra_VU59 : after (put 0x0200 [0x3C] (regs [(0x00, 0xFF), (0x01, 0xFF)] base))
    (fun t => t.pc == 0x0201 && t.flags == 0b0101 && sramByte t 0x00 == 0xFF &&
      sramByte t 0x01 == 0xFF) = true := by decide

/-- 95_test_vectors.md VU60. -/
theorem test_sla_VU60 : after (put 0x0200 [0x3D] (regs [(0x00, 0xC0), (0x01, 0x00)] { base with flags := 0b0010 }))
    (fun t => t.pc == 0x0201 && t.flags == 0b0101 && sramByte t 0x00 == 0x80 &&
      sramByte t 0x01 == 0x00) = true := by decide

/-- 95_test_vectors.md VM2. -/
theorem test_stmmu_VM2 : after (put 0x0200 [0x2E, 0x10, 0x30, 0x00] base)
    (fun t => t.pc == 0x0204 && readByte t 0x3000 == 0x00 && readByte t 0x3001 == 0x01 &&
      readByte t 0x3002 == 0x02 && readByte t 0x3003 == 0x03 && readByte t 0x3004 == 0x04 &&
      readByte t 0x3005 == 0x05 && readByte t 0x3006 == 0x06 && readByte t 0x3007 == 0x07 &&
      readByte t 0x3008 == 0x08 && readByte t 0x3009 == 0x09 && readByte t 0x300A == 0x0A &&
      readByte t 0x300B == 0x0B && readByte t 0x300C == 0x0C && readByte t 0x300D == 0x0D &&
      readByte t 0x300E == 0x0E && readByte t 0x300F == 0x0F && readByte t 0x3010 == 0x10 &&
      readByte t 0x3011 == 0x11 && readByte t 0x3012 == 0x12 && readByte t 0x3013 == 0x13 &&
      readByte t 0x3014 == 0x14 && readByte t 0x3015 == 0x15 && readByte t 0x3016 == 0x16 &&
      readByte t 0x3017 == 0x17 && readByte t 0x3018 == 0x18 && readByte t 0x3019 == 0x19 &&
      readByte t 0x301A == 0x1A && readByte t 0x301B == 0x1B && readByte t 0x301C == 0x1C &&
      readByte t 0x301D == 0x1D && readByte t 0x301E == 0x7E && readByte t 0x301F == 0x7F) = true := by decide

/-- 95_test_vectors.md VM9. -/
theorem test_lddma_VM9 : after (put 0x0200 [0x2F, 0x40] (regs [(0x04, 0x20), (0x05, 0x00)] base))
    (fun t => t.pc == 0x0202 && t.dma.addr == 0x2000) = true := by decide

/-- 95_test_vectors.md VM10. -/
theorem test_stdma_VM10 : after (put 0x0200 [0x2F, 0x81]
      { base with flags := 0b0000, dma := { base.dma with addr := 0x2000 } })
    (fun t => t.pc == 0x0202 && t.flags == 0b0000 && sramByte t 0x08 == 0x20 &&
      sramByte t 0x09 == 0x00) = true := by decide

/-- 95_test_vectors.md VM11. -/
theorem test_lddmc_VM11 : after (put 0x0200 [0x2F, 0x62] (regs [(0x06, 0x01), (0x07, 0x00)] base))
    (fun t => t.pc == 0x0202 && t.dma.count == 0x0100) = true := by decide

/-- 95_test_vectors.md VM12. -/
theorem test_stdmc_VM12 : after (put 0x0200 [0x2F, 0x03] { base with dma := { base.dma with count := 0xFFFF } })
    (fun t => t.pc == 0x0202 && sramByte t 0x00 == 0xFF && sramByte t 0x01 == 0xFF) = true := by decide

/-- 95_test_vectors.md VM13. -/
theorem test_sdmam_VM13 : after (put 0x0200 [0x2F, 0xF4] base)
    (fun t => t.pc == 0x0202 && t.dma.mode == 0xF) = true := by decide

/-- 95_test_vectors.md VM14. -/
theorem test_edma_VM14 : after (put 0x0200 [0x2F, 0x06] base)
    (fun t => t.pc == 0x0202 && t.dma.enabled == true) = true := by decide

/-- 95_test_vectors.md VM15. -/
theorem test_ddma_VM15 : after (put 0x0200 [0x2F, 0x07] { base with dma := { base.dma with enabled := true } })
    (fun t => t.pc == 0x0202 && t.dma.enabled == false) = true := by decide

/-- 95_test_vectors.md VM20. -/
theorem test_bcpy_VM20 : after (put 0x2000 [0x11, 0x22] (put 0x0200 [0x3E, 0x01, 0x20, 0x00, 0x30, 0x00]
      { base with flags := 0b1111 }))
    (fun t => t.pc == 0x0206 && t.flags == 0b1111 && readByte t 0x3000 == 0x11 &&
      readByte t 0x3001 == 0x22) = true := by decide

/-- 95_test_vectors.md VM25. -/
theorem test_bcmp_VM25 : after (put 0x3000 [0x01, 0x02, 0x03] (put 0x2000 [0x01, 0x02, 0x03] (put 0x0200 [0x3F,
      0x02, 0x20, 0x00, 0x30, 0x00] { base with flags := 0b0111 })))
    (fun t => t.pc == 0x0206 && t.flags == 0b1111) = true := by decide

/-- 95_test_vectors.md VA1. -/
theorem test_addb_VA1 : after (put 0x0200 [0x40, 0x13] (regs [(0x01, 0x01), (0x03, 0xFF)]
      { base with flags := 0b0010 }))
    (fun t => t.pc == 0x0202 && t.flags == 0b1011 && sramByte t 0x03 == 0x00) = true := by decide

/-- 95_test_vectors.md VA18. -/
theorem test_subb_VA18 : after (put 0x0200 [0x41, 0x13] (regs [(0x01, 0xFF), (0x03, 0xFF)]
      { base with flags := 0b0010 }))
    (fun t => t.pc == 0x0202 && t.flags == 0b1001 && sramByte t 0x03 == 0x00) = true := by decide

/-- 95_test_vectors.md VA32. -/
theorem test_andb_VA32 : after (put 0x0200 [0x42, 0x13] (regs [(0x01, 0xF0), (0x03, 0x3C)]
      { base with flags := 0b0011 }))
    (fun t => t.pc == 0x0202 && sramByte t 0x03 == 0x30) = true := by decide

/-- 95_test_vectors.md VA34. -/
theorem test_orib_VA34 : after (put 0x0200 [0x43, 0x13] (regs [(0x01, 0x80), (0x03, 0x01)] base))
    (fun t => t.pc == 0x0202 && t.flags == 0b0100 && sramByte t 0x03 == 0x81) = true := by decide

/-- 95_test_vectors.md VA35. -/
theorem test_oreb_VA35 : after (put 0x0200 [0x44, 0x13] (regs [(0x01, 0xFF), (0x03, 0xFF)] base))
    (fun t => t.pc == 0x0202 && t.flags == 0b1000 && sramByte t 0x03 == 0x00) = true := by decide

/-- 95_test_vectors.md VA38. -/
theorem test_xfrb_VA38 : after (put 0x0200 [0x45, 0x31] (regs [(0x03, 0x00), (0x01, 0x55)]
      { base with flags := 0b0111 }))
    (fun t => t.pc == 0x0202 && t.flags == 0b1011 && sramByte t 0x01 == 0x00) = true := by decide

/-- 95_test_vectors.md VA10. -/
theorem test_aabb_VA10 : after (put 0x0200 [0x48] (regs [(0x01, 0x0F), (0x03, 0x01)] base))
    (fun t => t.pc == 0x0201 && sramByte t 0x03 == 0x10) = true := by decide

/-- 95_test_vectors.md VA28. -/
theorem test_sabb_VA28 : after (put 0x0200 [0x49] (regs [(0x01, 0xFF), (0x03, 0xFF)] base))
    (fun t => t.pc == 0x0201 && t.flags == 0b1001 && sramByte t 0x03 == 0x00) = true := by decide

/-- 95_test_vectors.md VA44. -/
theorem test_nabb_VA44 : after (put 0x0200 [0x4A] (regs [(0x01, 0x0F), (0x03, 0xF8)] base))
    (fun t => t.pc == 0x0201 && sramByte t 0x03 == 0x08) = true := by decide

/-- 95_test_vectors.md VA45. -/
theorem test_xaxb_VA45 : after (put 0x0200 [0x4B] (regs [(0x01, 0x80)] base))
    (fun t => t.pc == 0x0201 && t.flags == 0b0100 && sramByte t 0x05 == 0x80) = true := by decide

/-- 95_test_vectors.md VA46. -/
theorem test_xayb_VA46 : after (put 0x0200 [0x4C] (regs [(0x01, 0x01)] base))
    (fun t => t.pc == 0x0201 && sramByte t 0x07 == 0x01) = true := by decide

/-- 95_test_vectors.md VA47. -/
theorem test_xabb_VA47 : after (put 0x0200 [0x4D] (regs [(0x01, 0x00), (0x03, 0x77)] base))
    (fun t => t.pc == 0x0201 && t.flags == 0b1000 && sramByte t 0x03 == 0x00) = true := by decide

/-- 95_test_vectors.md VA48. -/
theorem test_xazb_VA48 : after (put 0x0200 [0x4E] (regs [(0x01, 0x7F)] base))
    (fun t => t.pc == 0x0201 && sramByte t 0x09 == 0x7F) = true := by decide

/-- 95_test_vectors.md VA49. -/
theorem test_xasb_VA49 : after (put 0x0200 [0x4F] (regs [(0x01, 0xFF), (0x0A, 0x10), (0x0B, 0x00)] base))
    (fun t => t.pc == 0x0201 && t.flags == 0b0100 && sramByte t 0x0A == 0x10 &&
      sramByte t 0x0B == 0xFF) = true := by decide

/-- 95_test_vectors.md VA6. -/
theorem test_add_VA6 : after (put 0x0200 [0x50, 0x02] (regs [(0x00, 0xFF), (0x01, 0xFF), (0x02, 0x00), (0x03,
      0x01)] base))
    (fun t => t.pc == 0x0202 && t.flags == 0b1001 && sramByte t 0x02 == 0x00 &&
      sramByte t 0x03 == 0x00) = true := by decide

/-- 95_test_vectors.md VA22. -/
theorem test_sub_VA22 : after (put 0x0200 [0x51, 0x02] (regs [(0x00, 0x00), (0x01, 0x05), (0x02, 0x00), (0x03,
      0x03)] base))
    (fun t => t.pc == 0x0202 && t.flags == 0b0001 && sramByte t 0x02 == 0x00 &&
      sramByte t 0x03 == 0x02) = true := by decide

/-- 95_test_vectors.md VA39. -/
theorem test_and_VA39 : after (put 0x0200 [0x52, 0x02] (regs [(0x00, 0xFF), (0x01, 0x00), (0x02, 0x0F), (0x03,
      0xF0)] base))
    (fun t => t.pc == 0x0202 && t.flags == 0b0000 && sramByte t 0x02 == 0x0F &&
      sramByte t 0x03 == 0x00) = true := by decide

/-- 95_test_vectors.md VA40. -/
theorem test_ori_VA40 : after (put 0x0200 [0x53, 0x24] (regs [(0x02, 0x80), (0x03, 0x00), (0x04, 0x00), (0x05,
      0x01)] base))
    (fun t => t.pc == 0x0202 && t.flags == 0b0100 && sramByte t 0x04 == 0x80 &&
      sramByte t 0x05 == 0x01) = true := by decide

/-- 95_test_vectors.md VA41. -/
theorem test_ore_VA41 : after (put 0x0200 [0x54, 0x00] (regs [(0x00, 0x12), (0x01, 0x34)] base))
    (fun t => t.pc == 0x0202 && t.flags == 0b1000 && sramByte t 0x00 == 0x00 &&
      sramByte t 0x01 == 0x00) = true := by decide

/-- 95_test_vectors.md VA43. -/
theorem test_xfr_VA43 : after (put 0x0200 [0x55, 0x0C] (regs [(0x00, 0x90), (0x01, 0x20)] base))
    (fun t => t.pc == 0x0202 && t.flags == 0b0100 && sramByte t 0x0C == 0x90 &&
      sramByte t 0x0D == 0x20) = true := by decide

/-- 95_test_vectors.md VA11. -/
theorem test_aab_VA11 : after (put 0x0200 [0x58] (regs [(0x00, 0x12), (0x01, 0x34), (0x02, 0x11), (0x03, 0x11)] base))
    (fun t => t.pc == 0x0201 && sramByte t 0x02 == 0x23 && sramByte t 0x03 == 0x45) = true := by decide

/-- 95_test_vectors.md VA26. -/
theorem test_sab_VA26 : after (put 0x0200 [0x59] (regs [(0x00, 0xFF), (0x01, 0xFF), (0x02, 0xFF), (0x03, 0xFF)] base))
    (fun t => t.pc == 0x0201 && t.flags == 0b1001 && sramByte t 0x02 == 0x00 &&
      sramByte t 0x03 == 0x00) = true := by decide

/-- 95_test_vectors.md VA50. -/
theorem test_nab_VA50 : after (put 0x0200 [0x5A] (regs [(0x00, 0x80), (0x01, 0x01), (0x02, 0x80), (0x03, 0x00)] base))
    (fun t => t.pc == 0x0201 && t.flags == 0b0100 && sramByte t 0x02 == 0x80 &&
      sramByte t 0x03 == 0x00) = true := by decide

/-- 95_test_vectors.md VA51. -/
theorem test_xax_VA51 : after (put 0x0200 [0x5B] (regs [(0x00, 0x80), (0x01, 0x00)] base))
    (fun t => t.pc == 0x0201 && t.flags == 0b0100 && sramByte t 0x04 == 0x80 &&
      sramByte t 0x05 == 0x00) = true := by decide

/-- 95_test_vectors.md VA52. -/
theorem test_xay_VA52 : after (put 0x0200 [0x5C] (regs [(0x00, 0x00), (0x01, 0x01)] base))
    (fun t => t.pc == 0x0201 && sramByte t 0x06 == 0x00 && sramByte t 0x07 == 0x01) = true := by decide

/-- 95_test_vectors.md VA53. -/
theorem test_xab_VA53 : after (put 0x0200 [0x5D] (regs [(0x00, 0x00), (0x01, 0x00), (0x02, 0x11), (0x03, 0x11)] base))
    (fun t => t.pc == 0x0201 && t.flags == 0b1000 && sramByte t 0x02 == 0x00 &&
      sramByte t 0x03 == 0x00) = true := by decide

/-- 95_test_vectors.md VA54. -/
theorem test_xaz_VA54 : after (put 0x0200 [0x5E] (regs [(0x00, 0x7F), (0x01, 0xFF)] base))
    (fun t => t.pc == 0x0201 && sramByte t 0x08 == 0x7F && sramByte t 0x09 == 0xFF) = true := by decide

/-- 95_test_vectors.md VA55. -/
theorem test_xas_VA55 : after (put 0x0200 [0x5F] (regs [(0x00, 0x10), (0x01, 0x00)] base))
    (fun t => t.pc == 0x0201 && sramByte t 0x0A == 0x10 && sramByte t 0x0B == 0x00) = true := by decide

/-- 95_test_vectors.md VL31. -/
theorem test_ldx_VL31 : after (put 0x3000 [0x20, 0x02, 0x20, 0x04] (put 0x2000 [0x12, 0x34, 0x56, 0x78, 0x9A,
      0xBC] (put 0x0200 [0x65, 0x41] (regs [(0x04, 0x20), (0x05, 0x00)] base))))
    (fun t => t.pc == 0x0202 && sramByte t 0x04 == 0x12 && sramByte t 0x05 == 0x34) = true := by decide

/-- 95_test_vectors.md VL32. -/
theorem test_stx_VL32 : after (put 0x0200 [0x69, 0x30, 0x00] (regs [(0x04, 0x00), (0x05, 0x00)]
      { base with flags := 0b0111 }))
    (fun t => t.pc == 0x0203 && t.flags == 0b1011 && readByte t 0x3000 == 0x00 &&
      readByte t 0x3001 == 0x00) = true := by decide

/-- 95_test_vectors.md VL2. -/
theorem test_ldab_VL2 : after (put 0x3000 [0x20, 0x02, 0x20, 0x04] (put 0x2000 [0x12, 0x34, 0x56, 0x78, 0x9A,
      0xBC] (put 0x0200 [0x80, 0x00] (regs [(0x00, 0x12), (0x01, 0xFF)] base))))
    (fun t => t.pc == 0x0202 && t.flags == 0b1000 && sramByte t 0x00 == 0x12 &&
      sramByte t 0x01 == 0x00) = true := by decide

/-- 95_test_vectors.md VL11. -/
theorem test_lda_VL11 : after (put 0x3000 [0x20, 0x02, 0x20, 0x04] (put 0x2000 [0x12, 0x34, 0x56, 0x78, 0x9A,
      0xBC] (put 0x0200 [0x95, 0x6E, 0x02] (regs [(0x06, 0x30), (0x07, 0x02)] base))))
    (fun t => t.pc == 0x0203 && t.flags == 0b0100 && sramByte t 0x00 == 0x9A && sramByte t 0x01 == 0xBC &&
      sramByte t 0x06 == 0x30 && sramByte t 0x07 == 0x00) = true := by decide

/-- 95_test_vectors.md VL19. -/
theorem test_stab_VL19 : after (put 0x0200 [0xAF] (regs [(0x00, 0x00), (0x01, 0xEE), (0x0E, 0x12), (0x0F,
      0x34)] base))
    (fun t => t.pc == 0x0201 && t.flags == 0b0100 && sramByte t 0x0E == 0x12 &&
      sramByte t 0x0F == 0xEE) = true := by decide

/-- 95_test_vectors.md VL14. -/
theorem test_sta_VL14 : after (put 0x3000 [0x20, 0x02, 0x20, 0x04] (put 0x2000 [0x12, 0x34, 0x56, 0x78, 0x9A,
      0xBC] (put 0x0200 [0xB5, 0x01] (regs [(0x00, 0x20), (0x01, 0x00)] base))))
    (fun t => t.pc == 0x0202 && sramByte t 0x00 == 0x20 && sramByte t 0x01 == 0x02 && readByte t 0x2000 == 0x20 &&
      readByte t 0x2001 == 0x02) = true := by decide

/-- 95_test_vectors.md VL34. -/
theorem test_ldbb_VL34 : after (put 0x0200 [0xC0, 0x7F] base)
    (fun t => t.pc == 0x0202 && sramByte t 0x03 == 0x7F) = true := by decide

/-- 95_test_vectors.md VL35. -/
theorem test_ldb_VL35 : after (put 0x3000 [0x20, 0x02, 0x20, 0x04] (put 0x2000 [0x12, 0x34, 0x56, 0x78, 0x9A,
      0xBC] (put 0x0200 [0xD1, 0x20, 0x04] base)))
    (fun t => t.pc == 0x0203 && t.flags == 0b0100 && sramByte t 0x02 == 0x9A &&
      sramByte t 0x03 == 0xBC) = true := by decide

/-- 95_test_vectors.md VL28. -/
theorem test_stbb_VL28 : after (put 0x0200 [0xE5, 0xA2] (regs [(0x02, 0x00), (0x03, 0xAB), (0x0A, 0x10), (0x0B,
      0x00)] base))
    (fun t => t.pc == 0x0202 && t.flags == 0b0100 && sramByte t 0x0A == 0x0F && sramByte t 0x0B == 0xFF &&
      readByte t 0x0FFF == 0xAB) = true := by decide

/-- 95_test_vectors.md VL21. -/
theorem test_stb_VL21 : after (put 0x0200 [0xFF] (regs [(0x02, 0x00), (0x03, 0x00), (0x0E, 0x55), (0x0F, 0x55)] base))
    (fun t => t.pc == 0x0201 && t.flags == 0b1000 && sramByte t 0x0E == 0x00 &&
      sramByte t 0x0F == 0x00) = true := by decide

/-- 95_test_vectors.md VJ5. -/
theorem test_jmp_VJ5 : after (put 0x0200 [0x75, 0x41] (regs [(0x04, 0x03), (0x05, 0x00)] base))
    (fun t => t.pc == 0x0300 && sramByte t 0x04 == 0x03 && sramByte t 0x05 == 0x02) = true := by decide

/-- 95_test_vectors.md VJ13. -/
theorem test_jsys_VJ13 : after (put 0x0200 [0x76, 0xFF] (regs [(0x24, 0x12), (0x25, 0x34), (0x2A, 0x10), (0x2B,
      0x00)] { base with ipl := 2, mb := 5 }))
    (fun t => t.pc == 0x0100 && t.mb == 0 && sramByte t 0x24 == 0x02 && sramByte t 0x25 == 0x02 &&
      sramByte t 0x2A == 0x0F && sramByte t 0x2B == 0xFB && readByte t 0x0FFB == 0xFF &&
      readByte t 0x0FFC == 0x12 && readByte t 0x0FFD == 0x34 && readByte t 0x0FFE == 0x02 &&
      readByte t 0x0FFF == 0x05) = true := by decide

/-- 95_test_vectors.md VJ11. -/
theorem test_jsr_VJ11 : after (put 0x3000 [0x20, 0x02, 0x20, 0x04] (put 0x2000 [0x12, 0x34, 0x56, 0x78, 0x9A,
      0xBC] (put 0x0200 [0x7A, 0x30, 0x00] (regs [(0x04, 0xAA), (0x05, 0xAA), (0x0A, 0x00), (0x0B, 0x02)] base))))
    (fun t => t.pc == 0x2002 && sramByte t 0x00 == 0xAA && sramByte t 0x01 == 0xAA && sramByte t 0x04 == 0x02 &&
      sramByte t 0x05 == 0x03 && sramByte t 0x0A == 0x00 && sramByte t 0x0B == 0x00) = true := by decide

/-- 95_test_vectors.md VJ18. -/
theorem test_push_VJ18 : after (put 0x0200 [0x7E, 0x03] (regs [(0x00, 0xA0), (0x01, 0xA1), (0x02, 0xA2), (0x03,
      0xA3), (0x04, 0xA4), (0x05, 0xA5), (0x06, 0xA6), (0x07, 0xA7), (0x08, 0xA8), (0x09, 0xA9), (0x0C, 0xAC),
      (0x0D, 0xAD), (0x0E, 0xAE), (0x0F, 0xAF), (0x0A, 0x10), (0x0B, 0x00)] base))
    (fun t => t.pc == 0x0202 && sramByte t 0x0A == 0x0F && sramByte t 0x0B == 0xFC && readByte t 0x0FFC == 0xA0 &&
      readByte t 0x0FFD == 0xA1 && readByte t 0x0FFE == 0xA2 && readByte t 0x0FFF == 0xA3) = true := by decide

/-- 95_test_vectors.md VJ23. -/
theorem test_pop_VJ23 : after (put 0x0FFC [0x11, 0x22, 0x33, 0x44] (put 0x0200 [0x7F, 0x03] (regs [(0x0A, 0x0F),
      (0x0B, 0xFC)] base)))
    (fun t => t.pc == 0x0202 && sramByte t 0x00 == 0x11 && sramByte t 0x01 == 0x22 && sramByte t 0x02 == 0x33 &&
      sramByte t 0x03 == 0x44 && sramByte t 0x0A == 0x10 && sramByte t 0x0B == 0x00) = true := by decide

/-! ### Fatal -/

/-- 95_test_vectors.md and 60_exceptions.md R401: one Fatal of each reason. -/
theorem test_fatal_reasons : fatal (put 0x0200 [0x86] base) .invalidAddressingMode = true ∧
    fatal (put 0x0200 [0x95, 0x63] base) .invalidIndexedSubmode = true ∧
    fatal (put 0x0200 [0x2E, 0x18] base) .mmuBankOutOfRange = true ∧
    fatal (put 0x0200 [0x50, 0x10] base) .reservedEncoding = true := by decide

/-! ### Witnesses: a state and operands that meet the hypotheses of each obligation that has some -/

/-- RAM below 0x2000, a ROM page at 0x2000, a device page at 0x2800, nothing elsewhere. -/
def mixed : State :=
  { base with
    regions := [{ start := 0, length := 0x2000, kind := .ram }, { start := 0x2000, length := 0x800, kind := .rom },
      { start := 0x2800, length := 0x800, kind := .device }] }

/-- `base` with S given. -/
def withS (sp : Word) : State := setXw base .S sp

/-- The page tables, MB and the regions of `base`: RAM wherever the register file is not. -/
def like (s : State) : Prop := (s.pt, s.mb, s.regions) = (base.pt, base.mb, base.regions)

theorem like_withS (sp : Word) : like (withS sp) := rfl

theorem base_entry : ∀ e : BitVec 5, (ptEntry base 0 e).toNat < 0x80 := by decide

theorem base_ram {a : Word} (ha : 0x100 ≤ a.toNat) : isRam base a = true := by
  have hn : ¬ a.toNat < 0x100 := by omega
  have h1 := base_entry (a.extractLsb' 11 5)
  have ht : (Machine.translate base a).toNat < 0x40000 := by
    rw [show Machine.translate base a = ptEntry base 0 (a.extractLsb' 11 5) ++ a.extractLsb' 0 11 from rfl,
      BitVec.toNat_append, ← Nat.shiftLeft_add_eq_or_of_lt (a.extractLsb' 0 11).isLt, Nat.shiftLeft_eq]
    have h2 := (a.extractLsb' 0 11).isLt
    omega
  simp only [isRam, resolve, hn, if_false]
  simp only [show base.regions = [{ start := 0, length := 0x40000, kind := .ram }] from rfl, regionAt, Region.contains]
  simp [ht]

theorem like_ram {s : State} (h : like s) {a : Word} (ha : 0x100 ≤ a.toNat) : isRam s a = true := by
  simp only [like, Prod.mk.injEq] at h
  rw [Laws.isRam_congr (s := base) h.1 h.2.1 h.2.2]
  exact base_ram ha

theorem like_quiet {s : State} (h : like s) {a : Word} (ha : 0x100 ≤ a.toNat) : isQuiet s a = true :=
  Laws.ram_quiet (like_ram h ha)

theorem like_writable {s : State} (h : like s) (a : Word) : isWritable s a = true := by
  by_cases ha : a.toNat < 0x100
  · simp [isWritable, resolve, ha]
  · exact Laws.ram_writable (like_ram h (by omega))

theorem like_no_device {s : State} (h : like s) (a : Word) : isDevice s a = false :=
  Laws.writable_not_device (like_writable h a)

/-- A Fatal step, and a halted state that is reset. -/
theorem witness_ResetState : step (put 0x0200 [0x50, 0x10] base) = .fault .reservedEncoding ∧
    (hostReset { base with halted := true }).halted = false := ⟨rfl, rfl⟩

/-- 70_reset_and_hazards.md R451: reset is the way on after a Fatal, the regions, their contents and the switches kept. -/
theorem test_reset_after_fatal_R451 :
    (match runTurns [.step, .host (.switches 5), .host .reset] (.defined (put 0x0200 [0x50, 0x10] base)) with
      | .next (.defined t) => t.pc == 0xFC00 && t.opcount == 0 && t.sw == 5 && decide (t.regions = base.regions) &&
          readByte t 0x0200 == 0x50
      | _ => false) = true := by decide

/-- 00_scope.md R3: OPCOUNT of two bits. -/
theorem test_opcount_width_R3 :
    after (put 0x0200 [0x01] { base with cfg := { opcountWidth := some 2 }, opcount := 3 })
      (fun t => t.opcount == 0) = true := by decide

theorem witness_StepKeepsInvariant :
    State.Inv (put 0x0200 [0xA1, 0x30, 0x00] base) ∧
      after (put 0x0200 [0xA1, 0x30, 0x00] base) (fun t => t.pc == 0x0203) = true ∧
      State.Inv { base with cfg := { opcountWidth := some 2 }, opcount := 3 } :=
  ⟨⟨by decide, by decide, rfl⟩, by decide, ⟨by decide, by decide, rfl⟩⟩

/-- A second region, just above the first and up to the end of the space, is registered; an overlapping one is not. -/
theorem witness_HostKeepsInvariant : State.Inv base ∧
    (match hostAct (.register { start := 0x40000, length := 0x40000, kind := .rom }) base with
      | .next t => t.regions.length == 2
      | _ => false) = true ∧
    hostAct (.register { start := 0x3FFFF, length := 2, kind := .rom }) base = .fault .doubleRegistration :=
  ⟨⟨by decide, by decide, rfl⟩, by decide, rfl⟩

/-- The longest encoding, across the end of the logical space into the register file. -/
theorem witness_StepRunsDecodedInstruction :
    let i : Instr := .bcpy 0xFF 0x2000 0x3001
    let s := put 0xFFFD [0x3E, 0xFF, 0x20, 0x00, 0x30, 0x01] { base with pc := 0xFFFD }
    i.wf = true ∧ s.halted = false ∧ ∀ k : Fin (encode i).length,
      readByte s (s.pc + BitVec.ofNat 16 k) = (encode i).get k ∧ isDevice s (s.pc + BitVec.ofNat 16 k) = false := by
  decide

/-- By default, at a width of which the count is the last value, and halted. -/
theorem witness_OpcountRisesByOne : base.cfg.opcountWidth = none ∧
    after (put 0x0200 [0x01] { base with cfg := { opcountWidth := some 2 }, opcount := 3 })
      (fun t => t.opcount == (3 + 1) % 2 ^ 2) = true ∧ after (put 0x0200 [0x00] base) (fun t => t.opcount == 1) = true ∧
      after { base with halted := true } (fun t => t.opcount == 0) = true ∧
      hostAct (.switches 5) base = .next { base with sw := 5 } := ⟨rfl, by decide, by decide, by decide, rfl⟩

theorem witness_StepOutcome : ({ base with halted := true } : State).halted = true := rfl

theorem witness_DecodeEncode : Instr.wf (.lda (.indexed .P .preDec true (some 0xFF))) = true ∧
    Instr.wf (.ldx .literal) = true ∧ Instr.wf (.reserved2E 2 0) = true ∧ Instr.wf (.edmaPad 15) = true := by decide

theorem witness_EncodeDecode : 6 ≤ [0x3E, 0, 0, 0, 0, (0 : Byte)].length ∧
    words [([0x2E, 0xF9], .reserved2E 15 9), ([0x3E, 0, 0, 0, 0, 0], .bcpy 0 0 0)] = true := by decide

/-- Unmapped at both ends of the range, and a ROM byte. -/
theorem witness_UnmappedAccess :
    (0x100 ≤ (0x0100 : Word).toNat ∧ regionAt State.reset.regions (Machine.translate State.reset 0x0100) = none) ∧
    (0x100 ≤ (0xFFFF : Word).toNat ∧ regionAt State.reset.regions (Machine.translate State.reset 0xFFFF) = none) ∧
    (0x100 ≤ ((0xFFFE : Word) + 1).toNat ∧
      regionAt State.reset.regions (Machine.translate State.reset (0xFFFE + 1)) = none) ∧
    regionAt mixed.regions (Machine.translate mixed 0x2000) = some .rom := by decide

/-- The last byte of the register file, the first of RAM, an address elsewhere, and a device. -/
theorem witness_WriteThenRead : Memory.wf mixed.mem = true ∧ isWritable mixed 0x00FF = true ∧
    isWritable mixed 0x0100 = true ∧ resolve mixed 0x0101 ≠ resolve mixed 0x0100 ∧ isDevice mixed 0x0101 = false ∧
    isDevice mixed 0x2800 = true ∧ resolve mixed 0x2800 = .phys 0x2800 := by decide

/-- A word over the end of the register file, one over a page end, one over the end of the space. -/
theorem witness_WordAccess : Memory.wf base.mem = true ∧
    (isDevice mixed 0x2800 = true ∧ resolve mixed 0x2800 = .phys 0x2800 ∧ isDevice mixed (0x2800 + 1) = true ∧
      resolve mixed (0x2800 + 1) = .phys 0x2801) ∧
    ∀ a ∈ [(0x00FF : Word), 0x07FF, 0xFFFF], isWritable base a = true ∧ isWritable base (a + 1) = true ∧
      isDevice base a = false ∧ isDevice base (a + 1) = false ∧ resolve base (a + 2) ≠ resolve base a ∧
      resolve base (a + 2) ≠ resolve base (a + 1) :=
  ⟨rfl, by decide, fun a _ => ⟨like_writable rfl a, like_writable rfl _, like_no_device rfl a, like_no_device rfl _,
    Laws.resolve_ne_of_near (by bv_omega) (by bv_omega), Laws.resolve_ne_of_near (by bv_omega) (by bv_omega)⟩⟩

theorem witness_ReturnFromSubroutine : ∀ sp ∈ [(0x0100 : Word), 0xFFFE],
    getXw (withS sp) .S = sp ∧ isQuiet (withS sp) sp = true ∧ isQuiet (withS sp) (sp + 1) = true := by
  intro sp h
  simp only [List.mem_cons, List.not_mem_nil, or_false] at h
  rcases h with rfl | rfl <;>
    exact ⟨Laws.getXw_setXw .., like_quiet (like_withS _) (by bv_omega), like_quiet (like_withS _) (by bv_omega)⟩

theorem witness_ReturnFromSystemCall : ∀ sp ∈ [(0x0100 : Word), 0xFFFB],
    getXw (withS sp) .S = sp ∧ ∀ k : Fin 5, isQuiet (withS sp) (sp + BitVec.ofNat 16 k) = true := by
  intro sp h
  simp only [List.mem_cons, List.not_mem_nil, or_false] at h
  rcases h with rfl | rfl <;> refine ⟨Laws.getXw_setXw .., fun k => like_quiet (like_withS _) ?_⟩ <;>
    have := k.isLt <;> bv_omega

theorem witness_BranchesByDefaultTable : State.reset.cfg.branchOverrides = [] := rfl

/-- One entry overridden, the first and the last of the table, with a branch that looks it up and one that does not. -/
theorem witness_BranchesByAnyTable :
    (∀ p ∈ [((0 : Nibble), (0 : Nibble), (0 : Fin 16)), (15, 15, 15)], ∃ s : State,
      s.cfg.branchOverrides = [(BitVec.ofNat 12 (p.1.toNat * 256 + p.2.2 * 16 + p.2.1.toNat), .minusOne)] ∧
      s.flags = p.1 ∧ s.sw = p.2.1) ∧
    after (put 0x0200 [0x1F, 0x04] { base with
        cfg := { branchOverrides := [(0xFFF, .minusOne)] }, flags := 15, sw := 15 }) (fun t => t.pc == 0x01FE) = true ∧
    after (put 0x0200 [0x1E, 0x04] { base with
        cfg := { branchOverrides := [(0xFFF, .minusOne)] }, flags := 15, sw := 15 }) (fun t => t.pc == 0x0206) = true :=
  ⟨fun p _ => ⟨{ base with
      cfg := { branchOverrides := [(BitVec.ofNat 12 (p.1.toNat * 256 + p.2.2 * 16 + p.2.1.toNat), .minusOne)] }
      flags := p.1, sw := p.2.1 }, rfl, rfl, rfl⟩, by decide, by decide⟩

theorem witness_LoadPageTable : (5 : BitVec 3) ≠ base.mb ∧
    ∀ a ∈ [(0x00F0 : Word), 0xFFF0, 0x2000], ∀ e : BitVec 5, isDevice base (a + e.zeroExtend 16) = false :=
  ⟨by decide, fun _ _ _ => like_no_device rfl _⟩

theorem witness_StorePageTable : Memory.wf base.mem = true ∧ ∀ a ∈ [(0x00F0 : Word), 0xFFF0],
    (∀ e : BitVec 5, isWritable base (a + e.zeroExtend 16) = true) ∧ isDevice base 0x0400 = false ∧
      ∀ e : BitVec 5, resolve base 0x0400 ≠ resolve base (a + e.zeroExtend 16) := by
  refine ⟨rfl, fun a h => ⟨fun _ => like_writable rfl _, like_no_device rfl _, fun e =>
    Laws.resolve_ne_of_near ?_ ?_⟩⟩ <;>
    simp only [List.mem_cons, List.not_mem_nil, or_false] at h <;> have := e.isLt <;>
    rcases h with rfl | rfl <;> bv_omega

/-- The least and the largest count, between RAM blocks that do not meet. -/
theorem witness_BlockCopy : Memory.wf base.mem = true ∧ isDevice base 0x2600 = false ∧ ∀ n ∈ [(0 : Byte), 255],
    (∀ i ≤ n.toNat, isDevice base ((0x2000 : Word) + BitVec.ofNat 16 i) = false) ∧
    (∀ i ≤ n.toNat, isWritable base ((0x2400 : Word) + BitVec.ofNat 16 i) = true) ∧
    (∀ i ≤ n.toNat, resolve base 0x2600 ≠ resolve base ((0x2400 : Word) + BitVec.ofNat 16 i)) ∧
    ∀ i ≤ n.toNat, ∀ j ≤ n.toNat,
      resolve base ((0x2000 : Word) + BitVec.ofNat 16 i) ≠ resolve base ((0x2400 : Word) + BitVec.ofNat 16 j) := by
  refine ⟨rfl, like_no_device rfl _, fun n _ => ⟨fun i _ => like_no_device rfl _, fun i _ => like_writable rfl _,
    fun i hi => Laws.resolve_ne_of_near ?_ ?_, fun i hi j hj => Ne.symm (Laws.resolve_ne_of_near ?_ ?_)⟩⟩
  all_goals have := n.isLt
  all_goals bv_omega

/-- 43_mmu_dma_block.md R251: a destination one byte above the source replicates the first byte. -/
theorem test_bcpy_overlap_R251 :
    after (put 0x2000 [0xAA, 0xBB, 0xCC] (put 0x0200 [0x3E, 0x01, 0x20, 0x00, 0x20, 0x01] base))
      (fun t => readByte t 0x2000 == 0xAA && readByte t 0x2001 == 0xAA && readByte t 0x2002 == 0xAA) = true := by decide

theorem witness_BlockCompare : ∀ i ≤ (255 : Byte).toNat,
    isDevice base ((0x2000 : Word) + BitVec.ofNat 16 i) = false ∧
      isDevice base ((0xFF80 : Word) + BitVec.ofNat 16 i) = false :=
  fun _ _ => ⟨like_no_device rfl _, like_no_device rfl _⟩

theorem witness_AddressingFrame : let m : Mode := .indexed .Y .preDec false none
    m ≠ .literal ∧ (∀ r st d, m ≠ .indexed r st true d) ∧ (∀ a, m ≠ .indirect a) ∧ (∀ d, m ≠ .relIndirect d) ∧
      ∀ j ∈ m.steppedRegs, regIndex base.ipl 0 ≠ regIndex base.ipl j := by
  refine ⟨by decide, fun r st d h => ?_, fun a h => ?_, fun d h => ?_, by decide⟩ <;> simp at h

theorem witness_LoadByteForms : let m : Mode := .indexed .Y .postInc true (some 0x80)
    isDevice base (effAddr m .byte base).1 = false ∧ isDevice base 0x0300 = false ∧
      (∀ p ∈ [WReg.A.lo, WReg.B.lo], (0x0300 : Word) ≠ regAddr base p) ∧
      ∀ j ∈ m.steppedRegs, (0x0300 : Word) ≠ regAddr base j := by decide

theorem witness_LoadWordForms : let m : Mode := .indexed .S .preDec true none
    (∀ i ∈ [Instr.lda m, .ldb m, .ldx m], i.wf = true) ∧ Instr.wf (.lda (.register .P)) = true ∧
      isDevice base (effAddr m .word base).1 = false ∧ isDevice base ((effAddr m .word base).1 + 1) = false ∧
      isDevice base 0x0300 = false ∧ (∀ q ∈ [WReg.A, .B, .X], (0x0300 : Word) ≠ regAddr base q.hi ∧
        (0x0300 : Word) ≠ regAddr base q.lo) ∧ ∀ j ∈ m.steppedRegs, (0x0300 : Word) ≠ regAddr base j := by decide

/-- A byte store to RAM, and one to a device. -/
theorem witness_StoreByteForms : Memory.wf mixed.mem = true ∧
    isWritable mixed (effAddr (.direct 0x0100) .byte mixed).1 = true ∧
    resolve mixed 0x0300 ≠ resolve mixed 0x0100 ∧ isDevice mixed 0x0300 = false ∧
    isDevice mixed 0x0100 = false ∧ isDevice mixed (effAddr (.direct 0x2FFF) .byte mixed).1 = true ∧
    resolve mixed 0x2FFF = .phys 0x2FFF := by decide

/-- A word store that straddles the register file and RAM, one at the end of the space. -/
theorem witness_StoreWordForms : Memory.wf base.mem = true ∧ ∀ a ∈ [(0x00FF : Word), 0xFFFF],
    (∀ i ∈ [Instr.sta (.direct a), .stb (.direct a), .stx (.direct a)], i.wf = true) ∧
    isWritable base (effAddr (.direct a) .word base).1 = true ∧
    isWritable base ((effAddr (.direct a) .word base).1 + 1) = true ∧
    isDevice base a = false ∧ isDevice base (a + 1) = false ∧ isDevice base 0x0300 = false ∧
    resolve base 0x0300 ≠ resolve base a ∧ resolve base 0x0300 ≠ resolve base (a + 1) := by
  refine ⟨rfl, fun a h => ⟨by simp [Instr.wf, Mode.isRegister], like_writable rfl _, like_writable rfl _,
    like_no_device rfl _, like_no_device rfl _, like_no_device rfl _, Laws.resolve_ne_of_near ?_ ?_,
    Laws.resolve_ne_of_near ?_ ?_⟩⟩ <;>
    simp only [List.mem_cons, List.not_mem_nil, or_false] at h <;> rcases h with rfl | rfl <;> bv_omega

theorem witness_Jump : Mode.isTarget (.indexed .Y .postInc true (some 3)) = true ∧ isDevice base 0x0300 = false ∧
    ∀ j ∈ (Mode.indexed .Y .postInc true (some 3)).steppedRegs, (0x0300 : Word) ≠ regAddr base j := by decide

/-- The index register is S itself, and the stack ends at the lowest RAM word. -/
theorem witness_CallSubroutine : let m : Mode := .indexed .S .postInc false none
    let s := withS 0x0100
    let sp := getXw (effAddr m .word s).2 .S - 2
    m.isTarget = true ∧ Memory.wf s.mem = true ∧ sp = 0x0100 ∧ isRam s sp = true ∧ isRam s (sp + 1) = true ∧
      isDevice s 0x0300 = false ∧ resolve s 0x0300 ≠ resolve s sp ∧ resolve s 0x0300 ≠ resolve s (sp + 1) ∧
      ∀ j ∈ [WReg.X.hi, WReg.X.lo, WReg.S.hi, WReg.S.lo] ++ m.steppedRegs, (0x0300 : Word) ≠ regAddr s j := by decide +kernel

theorem witness_SystemCall : ∀ sp ∈ [(0x0105 : Word), 0x0000], let s := withS sp
    Memory.wf s.mem = true ∧ (∀ k : Fin 5, isRam s (sp - 5 + BitVec.ofNat 16 k) = true) ∧ isDevice s 0x0300 = false ∧
      (∀ k : Fin 5, resolve s 0x0300 ≠ resolve s (sp - 5 + BitVec.ofNat 16 k)) ∧
      ∀ j ∈ [WReg.X.hi, WReg.X.lo, WReg.S.hi, WReg.S.lo], (0x0300 : Word) ≠ regAddr base j := by
  intro sp h
  refine ⟨rfl, fun k => like_ram (like_withS sp) ?_, like_no_device (like_withS sp) _, fun k =>
    Laws.resolve_ne_of_near ?_ ?_, by decide⟩ <;>
    simp only [List.mem_cons, List.not_mem_nil, or_false] at h <;> have := k.isLt <;>
    rcases h with rfl | rfl <;> bv_omega

/-- All sixteen registers, from the lowest RAM byte, from any first register. -/
theorem witness_PushRegisters : let s := withS 0x0110
    let sp : Word := 0x0110 - BitVec.ofNat 16 ((15 : Nibble).toNat + 1)
    getXw s .S = 0x0110 ∧ Memory.wf s.mem = true ∧
      (∀ i ≤ (15 : Nibble).toNat, isRam s (sp + BitVec.ofNat 16 i) = true) ∧
      isDevice s 0x0300 = false ∧ (0x0300 : Word) ≠ regAddr s WReg.S.hi ∧ (0x0300 : Word) ≠ regAddr s WReg.S.lo ∧
      ∀ i ≤ (15 : Nibble).toNat, resolve s 0x0300 ≠ resolve s (sp + BitVec.ofNat 16 i) := by
  refine ⟨Laws.getXw_setXw .., rfl, fun i hi => like_ram (like_withS _) ?_, like_no_device (like_withS _) _,
    by decide, by decide, fun i hi => Laws.resolve_ne_of_near ?_ ?_⟩ <;>
    have : i ≤ 15 := hi <;> clear hi <;> simp only [show (15 : Nibble).toNat + 1 = 16 from rfl] <;> bv_omega

theorem witness_PopRegisters : ∀ sp ∈ [(0x0100 : Word), 0xFFF0], getXw (withS sp) .S = sp ∧
    ∀ i ≤ (15 : Nibble).toNat, isQuiet (withS sp) (sp + BitVec.ofNat 16 i) = true := by
  intro sp h
  refine ⟨Laws.getXw_setXw .., fun i hi => like_quiet (like_withS sp) ?_⟩
  simp only [List.mem_cons, List.not_mem_nil, or_false] at h
  have : i ≤ 15 := hi
  clear hi
  rcases h with rfl | rfl <;> bv_omega

theorem witness_PushThenPopRestores : let s := withS 0x0000
    getXw s .S = 0 ∧ Memory.wf s.mem = true ∧ ∀ n : Nibble, ∀ i ≤ n.toNat,
      isRam s ((0x0000 : Word) - BitVec.ofNat 16 (n.toNat + 1) + BitVec.ofNat 16 i) = true := by
  refine ⟨Laws.getXw_setXw .., rfl, fun n i hi => like_ram (like_withS _) ?_⟩
  have := n.isLt
  bv_omega

/-- The callee's entry state itself meets what is asked of the state before the return. -/
theorem witness_CallThenReturn : let m : Mode := .direct 0x0400
    let s := withS 0x0102
    let t := callSubroutine m s
    let sp := getXw (effAddr m .word s).2 .S - 2
    m.isTarget = true ∧ Memory.wf s.mem = true ∧ isRam s sp = true ∧ isRam s (sp + 1) = true ∧
      exec (.jsr m) s = .next t ∧ isQuiet t sp = true ∧ isQuiet t (sp + 1) = true :=
  ⟨by decide, by decide, by decide, by decide, rfl, by decide, by decide⟩

theorem witness_SystemCallThenReturn : let s := { withS 0x0105 with mb := 3, ipl := 0 }
    let t := systemCall 0x2A s
    let v := { t with mb := s.mb }
    let sp := getXw s .S - 5
    Memory.wf s.mem = true ∧ (∀ k : Fin 5, isRam s (sp + BitVec.ofNat 16 k) = true) ∧
      exec (.jsys 0x2A) s = .next t ∧ v.ipl = s.ipl ∧ getXw v .X = getXw t .X ∧ getXw v .S = getXw t .S ∧
      ∀ k : Fin 5, isQuiet v (sp + BitVec.ofNat 16 k) = true :=
  ⟨by decide, by decide, rfl, by decide, by decide, by decide, by decide⟩

/-- Level 5 over 4, the same called as 21, and what is not accepted: an equal level, level 0, interrupts disabled. -/
theorem witness_InterruptEntry : let s := { base with ie := true, ipl := 4 }
    (s.ie = true ∧ s.ipl.toNat < 5 % 16) ∧ (s.ie = true ∧ s.ipl.toNat < 21 % 16) ∧
      ¬(s.ie = true ∧ s.ipl.toNat < 4 % 16) ∧ ¬(s.ie = true ∧ s.ipl.toNat < 16 % 16) ∧
      ¬(base.ie = true ∧ base.ipl.toNat < 15 % 16) := by decide

theorem witness_InterruptReturnRestores : let s := { base with ie := true, ipl := 4 }
    let t := triggerInterrupt 15 s
    s.ie = true ∧ s.ipl.toNat < 15 % 16 ∧ hostAct (.trigger 15) s = .next t ∧
      hiNibble (sramByte t (regIndex t.ipl 13)) = s.ipl := ⟨rfl, by decide, rfl, by decide⟩

theorem witness_NestedInterruptsUnwind : let s := { base with ie := true, ipl := 13 }
    s.ie = true ∧ s.ipl.toNat < 14 % 16 ∧ 14 % 16 < 15 % 16 := by decide

theorem witness_InterruptEnableOwners :
    after (put 0x0200 [0x04] base) (fun t => t.ie != base.ie) = true ∧
      after (put 0x0200 [0x05] { base with ie := true }) (fun t => t.ie != true) = true ∧
      hostAct .reset { base with ie := true } = .next (hostReset base) := ⟨by decide, by decide, rfl⟩

theorem witness_HaltedOwners :
    after (put 0x0200 [0x00] base) (fun t => t.halted != base.halted) = true ∧
      (triggerInterrupt 1 { base with ie := true, halted := true }).halted = false ∧
      (hostReset { base with halted := true }).halted = false := by decide

theorem witness_MmuBaseAndPriorityOwners :
    after (put 0x0200 [0x76, 0] { withS 0x1000 with mb := 5 }) (fun t => t.mb != 5) = true ∧
      after (put 0x0200 [0x0F] (put 0x1003 [0x02, 0x07] (withS 0x1000))) (fun t => t.mb != 0 && t.ipl != 0) = true ∧
      after (put 0x0200 [0x0A] { base with ipl := 4 }) (fun t => t.ipl != 4) = true ∧
      (triggerInterrupt 1 { base with ie := true }).ipl ≠ base.ipl ∧
      (hostReset { base with mb := 7, ipl := 3 }).mb ≠ 7 ∧ (hostReset { base with mb := 7, ipl := 3 }).ipl ≠ 3 := by
  decide

theorem witness_PageTableAndDmaOwners :
    after (put 0x0200 [0x2E, 0x07, 0x20, 0x00] base) (fun t => ptEntry t 7 31 != ptEntry base 7 31) = true ∧
      after (put 0x0200 [0x2F, 0x40] (setXw base .X 0x1234)) (fun t => t.dma != base.dma) = true ∧
      after (put 0x0200 [0x2F, 0x06] base) (fun t => t.dma != base.dma) = true ∧
      (hostReset { base with dma := { base.dma with mode := 9 } }).dma ≠ { base.dma with mode := 9 } := by decide

theorem witness_FaultAndLinkOwners :
    after (put 0x0200 [0x35, 0x0F] (setXw base .A 0x8000)) (fun t => flagF t.flags != flagF base.flags) = true ∧
      after (put 0x0200 [0x36, 0x00] (setXw base .A 0x0001)) (fun t => flagL t.flags != flagL base.flags) = true := by
  decide

end Sys2Proof.Tests
end

section
/-! Which encodings have no instruction, what `exec`, `step` and `report` answer for them and for the others, and with
that the outcome of a step (00_scope.md R5). -/

namespace Sys2Proof.Proofs

open Sys2Proof.Machine

/-! ### Fatal encodings -/

/-- The Fatal reason of an encoding that has no instruction, by the rule that reserves it; none for the instructions
(30_encoding.md R118, R119, 60_exceptions.md R401). -/
def fatalReason : Instr → Option Fault
  -- Modes 6 and 7 (45_load_store.md R317), jump submodes 0 and 7 (46_jump_call_stack.md R365).
  | .ldxMode6 | .ldxMode7 | .stxMode6 | .stxMode7 | .ldabMode6 | .ldabMode7 | .ldaMode6 | .ldaMode7
  | .stabMode6 | .stabMode7 | .staMode6 | .staMode7 | .ldbbMode6 | .ldbbMode7 | .ldbMode6 | .ldbMode7
  | .stbbMode6 | .stbbMode7 | .stbMode6 | .stbMode7 | .jmpLiteral | .jumpSub7 | .jsrLiteral =>
    some .invalidAddressingMode
  -- A mode-5 mode byte with mm = 3 (45_load_store.md R316).
  | .ldxMm3 _ | .stxMm3 _ | .ldabMm3 _ | .ldaMm3 _ | .stabMm3 _ | .staMm3 _ | .ldbbMm3 _ | .ldbMm3 _
  | .stbbMm3 _ | .stbMm3 _ | .jmpMm3 _ | .jsrMm3 _ => some .invalidIndexedSubmode
  -- A page-table bank of 8 to 15 (43_mmu_dma_block.md R240).
  | .ldmmuBadBank _ | .stmmuBadBank _ => some .mmuBankOutOfRange
  -- An odd word-register selector (30_encoding.md R119).
  | .inrOdd _ _ | .dcrOdd _ _ | .clrOdd _ _ | .ivrOdd _ _ | .srrOdd _ _ | .slrOdd _ _ | .rrrOdd _ _ | .rlrOdd _ _
  | .lddmaOdd _ | .stdmaOdd _ | .lddmcOdd _ | .stdmcOdd _
  | .addOddSrc _ _ | .addOddDst _ _ | .subOddSrc _ _ | .subOddDst _ _ | .andOddSrc _ _ | .andOddDst _ _
  | .oriOddSrc _ _ | .oriOddDst _ _ | .oreOddSrc _ _ | .oreOddDst _ _ | .xfrOddSrc _ _ | .xfrOddDst _ _
  | .ldxOddIndex _ _ _ _ | .stxOddIndex _ _ _ _ | .ldabOddIndex _ _ _ _ | .ldaOddIndex _ _ _ _
  | .stabOddIndex _ _ _ _ | .staOddIndex _ _ _ _ | .ldbbOddIndex _ _ _ _ | .ldbOddIndex _ _ _ _
  | .stbbOddIndex _ _ _ _ | .stbOddIndex _ _ _ _ | .jmpOddIndex _ _ _ _ | .jsrOddIndex _ _ _ _
  -- Reserved opcodes, sub-opcodes and pads (30_encoding.md R118, 43_mmu_dma_block.md R243, R253).
  | .reserved2E _ _ | .edmaPad _ | .ddmaPad _ | .reserved2FSub5 _ | .reserved2FSub8 _ _
  | .reserved46 | .reserved47 | .reserved56 | .reserved57 => some .reservedEncoding
  | _ => none

/-- An encoding with no instruction is Fatal in every state, with the reason of its rule. -/
theorem exec_of_fatalReason_some {i : Instr} {r : Fault} (h : fatalReason i = some r) (s : State) :
    exec i s = .fault r := by
  cases i <;> cases h <;> rfl

/-- Every other encoding has an instruction, which completes in every state. -/
theorem exec_of_fatalReason_none {i : Instr} (h : fatalReason i = none) (s : State) :
    ∃ t, exec i s = .next t := by
  cases i <;> cases h <;> exact ⟨_, rfl⟩

/-- The reason of an encoding is one of the four with a code; the host's registration error, which has none, is not
among them (60_exceptions.md R401). -/
theorem code_of_fatalReason_some {i : Instr} {r : Fault} (h : fatalReason i = some r) :
    r.code ∈ [some 1, some 2, some 3, some 4] := by
  cases i <;> cases h <;> decide

/-! ### The step and its report -/

/-- A halted core does nothing at all (40_control.md R156). -/
theorem step_of_halted {s : State} (h : s.halted = true) : step s = .next s := if_pos h

/-- A running core runs the instruction it fetched. -/
theorem step_of_running {s : State} (h : s.halted = false) :
    step s = exec (fetchInstr s).1 (fetchInstr s).2 := by
  simp [step, h]

theorem report_of_next {s t : State} (h : step s = .next t) : report s = some (.executed (!t.halted)) := by
  simp [report, h]

theorem report_of_fault {s : State} {r : Fault} (h : step s = .fault r) : report s = some (.fatal r) := by
  simp [report, h]

/-- A step answers a state or one of the four Fatal reasons. -/
theorem step_next_or_fatal (s : State) :
    (∃ t, step s = .next t) ∨ (∃ r, step s = .fault r ∧ r.code ∈ [some 1, some 2, some 3, some 4]) := by
  cases hs : s.halted with
  | true => exact .inl ⟨s, step_of_halted hs⟩
  | false =>
    rw [step_of_running hs]
    cases hr : fatalReason (fetchInstr s).1 with
    | none => exact .inl (exec_of_fatalReason_none hr _)
    | some r => exact .inr ⟨r, exec_of_fatalReason_some hr _, code_of_fatalReason_some hr⟩

/-- Settles O7: a halted core by `step_of_halted`, and the two outcomes of `step_next_or_fatal` with their reports. -/
theorem stepOutcome : Obligations.StepOutcome := by
  intro s
  constructor
  · intro hs
    have hstep := step_of_halted hs
    exact ⟨hstep, by simp [report_of_next hstep, hs]⟩
  · obtain ⟨t, ht⟩ | ⟨r, hr, hcode⟩ := step_next_or_fatal s
    · exact .inl ⟨t, ht, report_of_next ht⟩
    · exact .inr ⟨r, hr, report_of_fault hr, hcode⟩

end Sys2Proof.Proofs
end

section
/-! What a step and a host action can do to the control state, said once: IPL, IE, HALTED, MB, the DMA registers, the
page tables and OPCOUNT. With that, the owners of each of them (10_state.md R30 to R36). -/

namespace Sys2Proof.Proofs

open Sys2Proof.Machine Sys2Proof.Laws

/-! ### The control state under the shared operations -/

/-- The core's own fields beside PC, FLAGS and the register file (10_state.md R30 to R36). -/
structure Control where
  ipl : Nibble
  ie : Bool
  halted : Bool
  mb : BitVec 3
  dma : Dma
  pt : Vector (Vector Byte 32) 8
  opcount : Nat

/-- The control state of a state. -/
def control (s : State) : Control :=
  { ipl := s.ipl, ie := s.ie, halted := s.halted, mb := s.mb, dma := s.dma, pt := s.pt, opcount := s.opcount }

@[simp] theorem control_setXw (s : State) (r : WReg) (v : Word) : control (setXw s r v) = control s := rfl

@[simp] theorem control_unaryByte (law : Byte → Nat → FlagNibble → Byte × FlagNibble) (r n : Nibble) (s : State) :
    control (unaryByte law r n s) = control s := rfl

@[simp] theorem control_unaryWord (law : Word → Nat → FlagNibble → Word × FlagNibble) (r : WReg) (n : Nibble)
    (s : State) : control (unaryWord law r n s) = control s := rfl

@[simp] theorem control_binaryByte (law : Byte → Byte → FlagNibble → Byte × FlagNibble) (src dst : Nibble)
    (s : State) : control (binaryByte law src dst s) = control s := rfl

@[simp] theorem control_binaryWord (law : Word → Word → FlagNibble → Word × FlagNibble) (src dst : WReg)
    (s : State) : control (binaryWord law src dst s) = control s := rfl

@[simp] theorem control_branch (c : Nibble) (disp : Byte) (s : State) : control (branch c disp s) = control s := rfl

@[simp] theorem control_loadByte (i : Nibble) (m : Mode) (s : State) : control (loadByte i m s) = control s := by
  simp [control, loadByte]

@[simp] theorem control_loadWord (r : WReg) (m : Mode) (s : State) : control (loadWord r m s) = control s := by
  simp [control, loadWord]

@[simp] theorem control_storeByte (i : Nibble) (m : Mode) (s : State) : control (storeByte i m s) = control s := by
  simp [control, storeByte]

@[simp] theorem control_storeWord (r : WReg) (m : Mode) (s : State) : control (storeWord r m s) = control s := by
  simp [control, storeWord]

@[simp] theorem control_jump (m : Mode) (s : State) : control (jump m s) = control s := by
  simp [control, jump]

@[simp] theorem control_callSubroutine (m : Mode) (s : State) : control (callSubroutine m s) = control s := by
  simp [control, callSubroutine]

@[simp] theorem control_returnSubroutine (s : State) : control (returnSubroutine s) = control s := by
  simp [control, returnSubroutine]

@[simp] theorem control_pushRegisters (r n : Nibble) (s : State) : control (pushRegisters r n s) = control s := by
  simp [control, pushRegisters]

@[simp] theorem control_popRegisters (r n : Nibble) (s : State) : control (popRegisters r n s) = control s := by
  simp [control, popRegisters]

@[simp] theorem control_storeTable (b : BitVec 3) (k : Nat) (e : BitVec 5) (a : Word) (s : State) :
    control (storeTable b k e a s) = control s := by
  simp [control]

@[simp] theorem control_blockCopy (k : Nat) (src dst : Word) (s : State) :
    control (blockCopy k src dst s) = control s := by
  simp [control]

@[simp] theorem control_blockCompare (k : Nat) (src dst : Word) (eq : Bool) (s : State) :
    control (blockCompare k src dst eq s).2 = control s := by
  simp [control]

/-- LDMMU's loop changes no control state but the page tables (43_mmu_dma_block.md R241). -/
theorem control_loadTable (b : BitVec 3) (k : Nat) (e : BitVec 5) (a : Word) (s : State) :
    control (loadTable b k e a s) = { control s with pt := (loadTable b k e a s).pt } := by
  simp [control]

/-- A return from interrupt changes no control state but IPL (60_exceptions.md R409). -/
theorem control_interruptReturn (s : State) :
    control (interruptReturn s) = { control s with ipl := (interruptReturn s).ipl } := rfl

/-- JSYS changes no control state but MB, which it makes 0 (46_jump_call_stack.md R362). -/
theorem control_systemCall (arg : Byte) (s : State) :
    control (systemCall arg s) = { control s with mb := 0 } := by
  simp [control, systemCall]

/-- RSYS changes no control state but IPL and MB (40_control.md R155). -/
theorem control_returnSystemCall (s : State) :
    control (returnSystemCall s) =
      { control s with ipl := (returnSystemCall s).ipl, mb := (returnSystemCall s).mb } := by
  simp [control, returnSystemCall]

/-- Taking an interrupt changes no control state but IPL and HALTED (60_exceptions.md R405). -/
theorem control_interruptEntry (level : Nibble) (s : State) :
    control (interruptEntry level s) = { control s with ipl := level, halted := false } := rfl

/-! ### What an instruction does to the control state -/

/-- An encoding that completes in some state has an instruction. -/
theorem fatalReason_of_next {i : Instr} {s t : State} (h : exec i s = .next t) : fatalReason i = none := by
  cases hr : fatalReason i with
  | none => rfl
  | some r => rw [exec_of_fatalReason_some hr] at h; cases h

/-- Everything an instruction can do to the control state, from `s` to `t`: one case for each instruction that owns
some of it (10_state.md R30 to R35), and the case of all the others. -/
inductive ControlChange (s t : State) : Instr → Prop
  | kept {i : Instr} (h : control t = control s) : ControlChange s t i
  | hlt (h : control t = { control s with halted := true }) : ControlChange s t .hlt
  | ei (h : control t = { control s with ie := true }) : ControlChange s t .ei
  | di (h : control t = { control s with ie := false }) : ControlChange s t .di
  | ri (h : control t = { control s with ipl := t.ipl }) : ControlChange s t .ri
  | rim (h : control t = { control s with ipl := t.ipl }) : ControlChange s t .rim
  | jsys {arg : Byte} (h : control t = { control s with mb := 0 }) : ControlChange s t (.jsys arg)
  | rsys (h : control t = { control s with ipl := t.ipl, mb := t.mb }) : ControlChange s t .rsys
  | ldmmu {b : BitVec 3} {a : Word} (h : control t = { control s with pt := t.pt })
      (hpt : ∀ c, c ≠ b → ∀ e, ptEntry t c e = ptEntry s c e) : ControlChange s t (.ldmmu b a)
  | lddma {r : WReg} (h : control t = { control s with dma := { s.dma with addr := getXw s r } }) :
      ControlChange s t (.lddma r)
  | lddmc {r : WReg} (h : control t = { control s with dma := { s.dma with count := getXw s r } }) :
      ControlChange s t (.lddmc r)
  | sdmam {m : Nibble} (h : control t = { control s with dma := { s.dma with mode := m } }) :
      ControlChange s t (.sdmam m)
  | edma (h : control t = { control s with dma := { s.dma with enabled := true } }) : ControlChange s t .edma
  | ddma (h : control t = { control s with dma := { s.dma with enabled := false } }) : ControlChange s t .ddma

/-- The one case split over the instructions: an owner has its own case; each other constructor is Fatal, sets FLAGS
alone, or is one of the shared operations, which keep the control state. -/
theorem exec_controlChange {i : Instr} {s t : State} (h : exec i s = .next t) : ControlChange s t i := by
  have hr := fatalReason_of_next h
  cases i with
  | hlt => cases h; exact .hlt rfl
  | ei => cases h; exact .ei rfl
  | di => cases h; exact .di rfl
  | ri => cases h; exact .ri (control_interruptReturn s)
  | rim => cases h; exact .rim (control_interruptReturn s)
  | jsys arg => cases h; exact .jsys (control_systemCall arg s)
  | rsys => cases h; exact .rsys (control_returnSystemCall s)
  | ldmmu b a =>
    obtain rfl := Host.Outcome.next.inj h
    exact .ldmmu (control_loadTable b 32 0 a s) fun c hc e => ptEntry_loadTable_ne hc e 32 0 a s
  | lddma r => cases h; exact .lddma rfl
  | lddmc r => cases h; exact .lddmc rfl
  | sdmam m => cases h; exact .sdmam rfl
  | edma => cases h; exact .edma rfl
  | ddma => cases h; exact .ddma rfl
  | sf | rf | cf | sl | rl | cl => cases h; exact .kept rfl
  | bcmp n src dst => cases h; exact .kept (control_blockCompare (n.toNat + 1) src dst true s)
  | _ => cases hr <;> (obtain rfl := Host.Outcome.next.inj h; exact .kept (by simp))

/-! ### What a step does -/

theorem eq_of_step_halted {s t : State} (hs : s.halted = true) (h : step s = .next t) : t = s :=
  Host.Outcome.next.inj (h.symm.trans (step_of_halted hs))

/-- A step that changes a field is one of a running core, which runs what it fetched. -/
theorem running_of_changed {α : Type} (f : State → α) {s t : State} (h : step s = .next t) (hne : f t ≠ f s) :
    s.halted = false ∧ exec (fetchInstr s).1 (fetchInstr s).2 = .next t := by
  cases hs : s.halted with
  | true =>
    obtain rfl := eq_of_step_halted hs h
    exact absurd rfl hne
  | false => exact ⟨rfl, step_of_running hs ▸ h⟩

/-! ### What a host action does to the control state -/

/-- A host action is an interrupt that the core accepts (60_exceptions.md R402, R403). -/
def IsAcceptedInterrupt (s : State) (a : HostAction) : Prop :=
  ∃ l, a = .trigger l ∧ s.ie = true ∧ s.ipl.toNat < l % 16

/-- Everything a host action can do to the control state, from `s` to `t`. -/
inductive HostChange (s t : State) : HostAction → Prop
  | reset (h : t = hostReset s) : HostChange s t .reset
  | accepted {l : Nat} (hie : s.ie = true) (hlt : s.ipl.toNat < l % 16)
      (h : control t = { control s with ipl := BitVec.ofNat 4 l, halted := false }) : HostChange s t (.trigger l)
  | kept {a : HostAction} (hr : a ≠ .reset) (hacc : ¬IsAcceptedInterrupt s a) (h : control t = control s) :
      HostChange s t a

theorem triggerInterrupt_hostChange (l : Nat) (s : State) : HostChange s (triggerInterrupt l s) (.trigger l) := by
  cases hacc : interruptAccepted s (BitVec.ofNat 4 l) with
  | true =>
    obtain ⟨hie, hlt⟩ := (accepted_iff s l).mp hacc
    refine .accepted hie hlt ?_
    simpa [triggerInterrupt, hacc] using control_interruptEntry (BitVec.ofNat 4 l) s
  | false =>
    refine .kept nofun ?_ (by rw [trigger_refused hacc])
    rintro ⟨l, ⟨⟩, hl⟩
    exact Bool.false_ne_true (hacc ▸ (accepted_iff s l).mpr hl)

/-- The switches, the regions, their contents and the devices are the host's, beside the control state. -/
theorem hostAct_hostChange {a : HostAction} {s t : State} (h : hostAct a s = .next t) : HostChange s t a := by
  cases a with
  | reset => exact .reset (Host.Outcome.next.inj h).symm
  | trigger l => exact Host.Outcome.next.inj h ▸ triggerInterrupt_hostChange l s
  | register r =>
    simp only [hostAct] at h
    split at h
    · cases h; exact .kept nofun nofun rfl
    · cases h
  | switches sw => cases h; exact .kept nofun nofun rfl
  | store p v => cases h; exact .kept nofun nofun rfl
  | deviceEvent tag => cases h; exact .kept nofun nofun rfl

/-- Of the control state, an interrupt changes IPL and HALTED alone, and every other action but reset nothing. -/
theorem hostAct_keeps {α : Type} (f : Control → α) (hf : ∀ c k b, f { c with ipl := k, halted := b } = f c)
    {a : HostAction} {s t : State} (h : hostAct a s = .next t) (hr : a ≠ .reset) :
    f (control t) = f (control s) := by
  cases hostAct_hostChange h with
  | reset => exact absurd rfl hr
  | accepted _ _ hc => rw [hc, hf]
  | kept _ _ hc => rw [hc]

theorem reset_of_changed {α : Type} (f : Control → α) (hf : ∀ c k b, f { c with ipl := k, halted := b } = f c)
    {a : HostAction} {s t : State} (h : hostAct a s = .next t) (hne : f (control t) ≠ f (control s)) :
    a = .reset ∧ t = hostReset s := by
  have ha : a = .reset := by_contra fun hr => hne (hostAct_keeps f hf h hr)
  subst ha
  exact ⟨rfl, (Host.Outcome.next.inj h).symm⟩

/-! ### OPCOUNT -/

/-- No instruction changes OPCOUNT itself: the fetch of its opcode counted it (10_state.md R36). -/
theorem exec_opcount {i : Instr} {s t : State} (h : exec i s = .next t) : t.opcount = s.opcount := by
  cases exec_controlChange h with
  | _ hc => exact congrArg Control.opcount hc

theorem step_opcount {s t : State} (hs : s.halted = false) (h : step s = .next t) :
    t.opcount = countOpcode s.cfg s.opcount := by
  rw [step_of_running hs] at h
  rw [exec_opcount h, fetchInstr_opcount]

/-- Settles O6: the one count of a running step is the fetch's (`step_opcount`). -/
theorem opcountRisesByOne : Obligations.OpcountRisesByOne := by
  refine ⟨fun s t h => ⟨fun hs => ?_, fun hs hw => ?_, fun w hs hw => ?_⟩, fun a s t h hr => ?_⟩
  · obtain rfl := eq_of_step_halted hs h
    rfl
  · rw [step_opcount hs h, countOpcode_unbounded hw]
  · rw [step_opcount hs h, countOpcode_width hw]
  · exact hostAct_keeps Control.opcount (fun _ _ _ => rfl) h hr

/-! ### IE -/

theorem exec_ie {i : Instr} {s t : State} (h : exec i s = .next t) :
    t.ie = s.ie ∨ (i = .ei ∧ t.ie = true ∨ i = .di ∧ t.ie = false) := by
  cases exec_controlChange h with
  | ei hc => exact .inr (.inl ⟨rfl, congrArg Control.ie hc⟩)
  | di hc => exact .inr (.inr ⟨rfl, congrArg Control.ie hc⟩)
  | _ hc => exact .inl (congrArg Control.ie hc)

/-- Settles O53: of the cases of `exec_controlChange` only EI and DI write IE, of the host's only reset. -/
theorem interruptEnableOwners : Obligations.InterruptEnableOwners := by
  refine ⟨fun s t h hne => ?_, fun a s t h hne => ?_⟩
  · obtain ⟨hs, hexec⟩ := running_of_changed State.ie h hne
    exact ⟨hs, (exec_ie hexec).resolve_left (by simpa using hne)⟩
  · obtain ⟨ha, rfl⟩ := reset_of_changed Control.ie (fun _ _ _ => rfl) h hne
    exact ⟨ha, rfl⟩

/-! ### HALTED -/

theorem exec_halted_iff {i : Instr} {s t : State} (h : exec i s = .next t) :
    t.halted = true ↔ s.halted = true ∨ i = .hlt := by
  constructor
  · intro ht
    cases exec_controlChange h with
    | hlt => exact .inr rfl
    | _ hc => exact .inl ((congrArg Control.halted hc).symm.trans ht)
  · rintro (hs | rfl)
    · cases exec_controlChange h with
      | hlt hc => exact congrArg Control.halted hc
      | _ hc => exact (congrArg Control.halted hc).trans hs
    · cases h; rfl

theorem step_halted_iff {s t : State} (h : step s = .next t) :
    t.halted = true ↔ s.halted = true ∨ (fetchInstr s).1 = .hlt := by
  cases hs : s.halted with
  | true =>
    obtain rfl := eq_of_step_halted hs h
    simp [hs]
  | false =>
    rw [step_of_running hs] at h
    simpa [hs] using exec_halted_iff h

theorem hostAct_halted_iff {a : HostAction} {s t : State} (h : hostAct a s = .next t) :
    t.halted = true ↔ s.halted = true ∧ a ≠ .reset ∧ ¬IsAcceptedInterrupt s a := by
  cases hostAct_hostChange h with
  | reset ht => simp [ht, hostReset, resetFrom, State.resetWith]
  | @accepted l hie hlt hc =>
    have ht : t.halted = false := congrArg Control.halted hc
    have hacc : IsAcceptedInterrupt s (.trigger l) := ⟨l, rfl, hie, hlt⟩
    simp [ht, hacc]
  | kept hr hacc hc =>
    have ht : t.halted = s.halted := congrArg Control.halted hc
    simp [ht, hr, hacc]

/-- Settles O54: `step_halted_iff` and `hostAct_halted_iff`, and the halted step of O7. -/
theorem haltedOwners : Obligations.HaltedOwners :=
  ⟨fun _ _ => step_halted_iff, fun s => (stepOutcome s).1, fun _ _ _ => hostAct_halted_iff⟩

/-! ### MB and IPL -/

theorem exec_mb {i : Instr} {s t : State} (h : exec i s = .next t) :
    t.mb = s.mb ∨ (∃ arg, i = .jsys arg ∧ t.mb = 0) ∨ i = .rsys := by
  cases exec_controlChange h with
  | @jsys arg hc => exact .inr (.inl ⟨arg, rfl, congrArg Control.mb hc⟩)
  | rsys => exact .inr (.inr rfl)
  | _ hc => exact .inl (congrArg Control.mb hc)

theorem exec_ipl {i : Instr} {s t : State} (h : exec i s = .next t) :
    t.ipl = s.ipl ∨ i ∈ [Instr.ri, .rim, .rsys] := by
  cases exec_controlChange h with
  | ri | rim | rsys => simp
  | _ hc => exact .inl (congrArg Control.ipl hc)

theorem hostAct_ipl {a : HostAction} {s t : State} (h : hostAct a s = .next t) :
    t.ipl = s.ipl ∨ (a = .reset ∧ t.ipl = 0) ∨
      ∃ l, a = .trigger l ∧ s.ie = true ∧ s.ipl.toNat < t.ipl.toNat ∧ t.ipl.toNat = l % 16 := by
  cases hostAct_hostChange h with
  | reset ht => exact .inr (.inl ⟨rfl, ht ▸ rfl⟩)
  | @accepted l hie hlt hc =>
    have ht : t.ipl.toNat = l % 16 := by rw [show t.ipl = _ from congrArg Control.ipl hc, BitVec.toNat_ofNat]
    exact .inr (.inr ⟨l, rfl, hie, ht ▸ hlt, ht⟩)
  | kept _ _ hc => exact .inl (congrArg Control.ipl hc)

/-- Settles O55: the steps by `exec_mb` and `exec_ipl`, the host's actions by `reset_of_changed` and `hostAct_ipl`. -/
theorem mmuBaseAndPriorityOwners : Obligations.MmuBaseAndPriorityOwners := by
  refine ⟨fun s t h hne => ?_, fun s t h hne => ?_, fun a s t h hne => ?_, fun a s t h hne => ?_⟩
  · obtain ⟨-, hexec⟩ := running_of_changed State.mb h hne
    exact (exec_mb hexec).resolve_left (by simpa using hne)
  · obtain ⟨-, hexec⟩ := running_of_changed State.ipl h hne
    exact (exec_ipl hexec).resolve_left (by simpa using hne)
  · obtain ⟨ha, rfl⟩ := reset_of_changed Control.mb (fun _ _ _ => rfl) h hne
    exact ⟨ha, rfl⟩
  · exact (hostAct_ipl h).resolve_left hne

/-! ### The page tables and the DMA registers -/

theorem ptEntry_of_pt {s t : State} (h : t.pt = s.pt) (b : BitVec 3) (e : BitVec 5) :
    ptEntry t b e = ptEntry s b e := by
  simp [ptEntry, h]

theorem exec_ptEntry {i : Instr} {s t : State} (h : exec i s = .next t) (b : BitVec 3) (e : BitVec 5) :
    ptEntry t b e = ptEntry s b e ∨ ∃ a, i = .ldmmu b a := by
  cases exec_controlChange h with
  | @ldmmu bank a _ hpt =>
    by_cases hb : b = bank
    · exact .inr ⟨a, hb ▸ rfl⟩
    · exact .inl (hpt b hb e)
  | _ hc => exact .inl (ptEntry_of_pt (congrArg Control.pt hc) b e)

theorem exec_dma {i : Instr} {s t : State} (h : exec i s = .next t) :
    t.dma = s.dma ∨ (∃ r, i = .lddma r ∧ t.dma.count = s.dma.count) ∨
      (∃ r, i = .lddmc r ∧ t.dma.addr = s.dma.addr) ∨ (∃ m, i = .sdmam m) ∨ i = .edma ∨ i = .ddma := by
  cases exec_controlChange h with
  | @lddma r hc => exact .inr (.inl ⟨r, rfl, congrArg (·.dma.count) hc⟩)
  | @lddmc r hc => exact .inr (.inr (.inl ⟨r, rfl, congrArg (·.dma.addr) hc⟩))
  | @sdmam m => exact .inr (.inr (.inr (.inl ⟨m, rfl⟩)))
  | edma | ddma => simp
  | _ hc => exact .inl (congrArg Control.dma hc)

/-- Settles O56: the steps by `exec_ptEntry` and `exec_dma`, the host's actions by `reset_of_changed`. -/
theorem pageTableAndDmaOwners : Obligations.PageTableAndDmaOwners := by
  refine ⟨fun s t h b e hne => ?_, fun s t h hne => ?_, fun a s t h hne => ?_⟩
  · obtain ⟨-, hexec⟩ := running_of_changed (ptEntry · b e) h hne
    have hfetch := ptEntry_of_pt (fetchInstr_pt s) b e
    exact (exec_ptEntry hexec b e).resolve_left (hfetch ▸ hne)
  · obtain ⟨-, hexec⟩ := running_of_changed State.dma h hne
    simpa [hne] using exec_dma hexec
  · obtain hpt | hdma := hne
    · exact (reset_of_changed Control.pt (fun _ _ _ => rfl) h hpt).1
    · exact (reset_of_changed Control.dma (fun _ _ _ => rfl) h hdma).1

end Sys2Proof.Proofs
end

section
/-! Which instructions change FAULT and LINK: the F and L columns of 10_state.md R28. -/

namespace Sys2Proof.Proofs

open Sys2Proof.Machine Sys2Proof.Laws

/-! ### The FLAGS each law gives -/

@[simp] theorem incLaw_flags {n : Nat} (v : BitVec n) (c : Nat) (fl : FlagNibble) :
    (incLaw v c fl).2 = setMV (incLaw v c fl).1 fl := rfl

@[simp] theorem decLaw_flags {n : Nat} (v : BitVec n) (c : Nat) (fl : FlagNibble) :
    (decLaw v c fl).2 = setMV (decLaw v c fl).1 fl := rfl

@[simp] theorem clrLaw_flags {n : Nat} (v : BitVec n) (c : Nat) (fl : FlagNibble) :
    (clrLaw v c fl).2 = setMV (clrLaw v c fl).1 fl := rfl

@[simp] theorem invLaw_flags {n : Nat} (v : BitVec n) (c : Nat) (fl : FlagNibble) :
    (invLaw v c fl).2 = setMV (invLaw v c fl).1 fl := rfl

@[simp] theorem andLaw_flags {n : Nat} (s d : BitVec n) (fl : FlagNibble) :
    (andLaw s d fl).2 = setMV (andLaw s d fl).1 fl := rfl

@[simp] theorem orLaw_flags {n : Nat} (s d : BitVec n) (fl : FlagNibble) :
    (orLaw s d fl).2 = setMV (orLaw s d fl).1 fl := rfl

@[simp] theorem xorLaw_flags {n : Nat} (s d : BitVec n) (fl : FlagNibble) :
    (xorLaw s d fl).2 = setMV (xorLaw s d fl).1 fl := rfl

@[simp] theorem transferLaw_flags {n : Nat} (s d : BitVec n) (fl : FlagNibble) :
    (transferLaw s d fl).2 = setMV (transferLaw s d fl).1 fl := rfl

@[simp] theorem flagF_shrLaw {n : Nat} (v : BitVec n) (c : Nat) (fl : FlagNibble) :
    flagF (shrLaw v c fl).2 = flagF fl := by
  simp [shrLaw]

@[simp] theorem flagF_rorLaw {n : Nat} (v : BitVec n) (c : Nat) (fl : FlagNibble) :
    flagF (rorLaw v c fl).2 = flagF fl := by
  simp [rorLaw]

@[simp] theorem flagF_rolLaw {n : Nat} (v : BitVec n) (c : Nat) (fl : FlagNibble) :
    flagF (rolLaw v c fl).2 = flagF fl := by
  simp [rolLaw]

@[simp] theorem flagF_addLaw {n : Nat} (s d : BitVec n) (fl : FlagNibble) :
    flagF (addLaw s d fl).2 = flagF fl := by
  simp [addLaw]

/-! ### The FLAGS each shared operation leaves -/

@[simp] theorem unaryByte_flags (law : Byte → Nat → FlagNibble → Byte × FlagNibble) (r n : Nibble) (s : State) :
    (unaryByte law r n s).flags = (law (getX s r) (n.toNat + 1) s.flags).2 := rfl

@[simp] theorem unaryWord_flags (law : Word → Nat → FlagNibble → Word × FlagNibble) (r : WReg) (n : Nibble)
    (s : State) : (unaryWord law r n s).flags = (law (getXw s r) (n.toNat + 1) s.flags).2 := rfl

@[simp] theorem binaryByte_flags (law : Byte → Byte → FlagNibble → Byte × FlagNibble) (src dst : Nibble)
    (s : State) : (binaryByte law src dst s).flags = (law (getX s src) (getX s dst) s.flags).2 := rfl

@[simp] theorem binaryWord_flags (law : Word → Word → FlagNibble → Word × FlagNibble) (src dst : WReg)
    (s : State) : (binaryWord law src dst s).flags = (law (getXw s src) (getXw s dst) s.flags).2 := rfl

@[simp] theorem branch_flags (c : Nibble) (disp : Byte) (s : State) : (branch c disp s).flags = s.flags := rfl

/-- A byte load sets M and V by the byte loaded (45_load_store.md R325). -/
@[simp] theorem loadByte_flags (i : Nibble) (m : Mode) (s : State) :
    (loadByte i m s).flags = setMV (memRead8 (effAddr m .byte s).1 (effAddr m .byte s).2).1 s.flags := by
  simp [loadByte]

/-- A word load sets M and V by the word loaded (45_load_store.md R325). -/
@[simp] theorem loadWord_flags (r : WReg) (m : Mode) (s : State) :
    (loadWord r m s).flags = setMV (memRead16 (effAddr m .word s).1 (effAddr m .word s).2).1 s.flags := by
  simp [loadWord]

/-- A byte store sets M and V by the byte stored (45_load_store.md R325). -/
@[simp] theorem storeByte_flags (i : Nibble) (m : Mode) (s : State) :
    (storeByte i m s).flags = setMV (getX (effAddr m .byte s).2 i) s.flags := by
  simp [storeByte]

/-- A word store sets M and V by the word stored (45_load_store.md R325). -/
@[simp] theorem storeWord_flags (r : WReg) (m : Mode) (s : State) :
    (storeWord r m s).flags = setMV (getXw (effAddr m .word s).2 r) s.flags := by
  simp [storeWord]

@[simp] theorem jump_flags (m : Mode) (s : State) : (jump m s).flags = s.flags := by simp [jump]

@[simp] theorem callSubroutine_flags (m : Mode) (s : State) : (callSubroutine m s).flags = s.flags := by
  simp [callSubroutine]

@[simp] theorem returnSubroutine_flags (s : State) : (returnSubroutine s).flags = s.flags := by
  simp [returnSubroutine]

@[simp] theorem systemCall_flags (arg : Byte) (s : State) : (systemCall arg s).flags = s.flags := by
  simp [systemCall]

@[simp] theorem returnSystemCall_flags (s : State) : (returnSystemCall s).flags = s.flags := by
  simp [returnSystemCall]

@[simp] theorem pushRegisters_flags (r n : Nibble) (s : State) : (pushRegisters r n s).flags = s.flags := by
  simp [pushRegisters]

@[simp] theorem popRegisters_flags (r n : Nibble) (s : State) : (popRegisters r n s).flags = s.flags := by
  simp [popRegisters]

/-! ### The owners of FAULT and LINK -/

/-- The instructions that write FAULT: the F column of 10_state.md R28. -/
def writesFault : Instr → Bool
  | .sf | .rf | .cf => true
  | .subb _ _ | .sub _ _ | .sabb | .sab => true
  | .slrb _ _ | .slr _ _ | .slab | .sla => true
  | .ri | .rim => true
  | _ => false

/-- The instructions that write LINK: the L column of 10_state.md R28. -/
def writesLink : Instr → Bool
  | .sl | .rl | .cl => true
  | .addb _ _ | .add _ _ | .aabb | .aab => true
  | .subb _ _ | .sub _ _ | .sabb | .sab => true
  | .srrb _ _ | .srr _ _ | .srab | .sra => true
  | .slrb _ _ | .slr _ _ | .slab | .sla => true
  | .rrrb _ _ | .rrr _ _ | .rlrb _ _ | .rlr _ _ => true
  | .ri | .rim => true
  | _ => false

/-- Outside the F column an encoding is Fatal, or its operation keeps FAULT by the FLAGS it leaves. -/
theorem exec_flagF {i : Instr} {s t : State} (h : exec i s = .next t) (hw : writesFault i = false) :
    flagF t.flags = flagF s.flags := by
  have hr := fatalReason_of_next h
  cases i with
  | sf | rf | cf | subb | sub | sabb | sab | slrb | slr | slab | sla | ri | rim => cases hw
  | _ => cases hr <;> (obtain rfl := Host.Outcome.next.inj h; simp)

/-- Outside the L column an encoding is Fatal, or its operation keeps LINK by the FLAGS it leaves. -/
theorem exec_flagL {i : Instr} {s t : State} (h : exec i s = .next t) (hw : writesLink i = false) :
    flagL t.flags = flagL s.flags := by
  have hr := fatalReason_of_next h
  cases i with
  | sl | rl | cl | addb | add | aabb | aab | subb | sub | sabb | sab | srrb | srr | srab | sra | slrb | slr | slab
  | sla | rrrb | rrr | rlrb | rlr | ri | rim => cases hw
  | _ => cases hr <;> (obtain rfl := Host.Outcome.next.inj h; simp)

/-- A step that changes FAULT runs an instruction of the F column. -/
theorem writesFault_of_changed {s t : State} (h : step s = .next t) (hne : flagF t.flags ≠ flagF s.flags) :
    writesFault (fetchInstr s).1 = true := by
  obtain ⟨-, hexec⟩ := running_of_changed (fun u => flagF u.flags) h hne
  by_contra hw
  exact hne (by simpa using exec_flagF hexec (Bool.eq_false_of_not_eq_true hw))

/-- A step that changes LINK runs an instruction of the L column. -/
theorem writesLink_of_changed {s t : State} (h : step s = .next t) (hne : flagL t.flags ≠ flagL s.flags) :
    writesLink (fetchInstr s).1 = true := by
  obtain ⟨-, hexec⟩ := running_of_changed (fun u => flagL u.flags) h hne
  by_contra hw
  exact hne (by simpa using exec_flagL hexec (Bool.eq_false_of_not_eq_true hw))

/-- Settles O57: the fetched instruction is one of its flag's column, which the statement lists. -/
theorem faultAndLinkOwners : Obligations.FaultAndLinkOwners := by
  refine ⟨fun s t h hne => ?_, fun s t h hne => ?_⟩
  · have hw := writesFault_of_changed h hne
    generalize (fetchInstr s).1 = i at hw ⊢
    cases i <;> cases hw <;> simp
  · have hw := writesLink_of_changed h hne
    generalize (fetchInstr s).1 = i at hw ⊢
    cases i <;> cases hw <;> simp

end Sys2Proof.Proofs
end

section
/-! The register file seen through the logical address space (10_state.md R24). -/

namespace Sys2Proof.Proofs

open Sys2Proof.Machine

/-- Address `(k << 4) | i` lies below 0x0100 and is SRAM byte `(k << 4) | i` (10_state.md R24, 20_memory.md R70). -/
theorem resolve_register (s : State) (k i : Nibble) :
    resolve s (BitVec.ofNat 16 (16 * k.toNat + i.toNat)) = .sram (regIndex k i) := by
  have haddr : BitVec.ofNat 16 (16 * k.toNat + i.toNat) = (regIndex k i).zeroExtend 16 := by
    revert k i; decide
  have hi := (regIndex k i).isLt
  have hnat : ((regIndex k i).zeroExtend 16).toNat = (regIndex k i).toNat := by
    rw [BitVec.zeroExtend, BitVec.toNat_setWidth, Nat.mod_eq_of_lt (by omega)]
  have hlow : ((regIndex k i).zeroExtend 16).extractLsb' 0 8 = regIndex k i :=
    BitVec.eq_of_toNat_eq (by rw [BitVec.extractLsb'_toNat, hnat]; simpa using hi)
  rw [haddr, resolve, if_pos (hnat ▸ hi), hlow]

/-- Settles O13: the address resolves to the register's SRAM byte, whatever IPL and MB are. -/
theorem registersAreMemory : Obligations.RegistersAreMemory := by
  intro s k i v a
  have hr : resolve s a = .sram (regIndex k i) := resolve_register s k i
  refine ⟨?_, ?_, ?_⟩
  · simp only [readByte, hr]; rfl
  · simp only [memRead8, readDone, hr]
  · simp only [memWrite8, hr]; rfl

end Sys2Proof.Proofs
end

section
/-! What no step changes of the host's side, and the invariant that every step and every host action keeps
(20_memory.md R60, R61, 10_state.md R36, 00_scope.md R3, R4). -/

namespace Sys2Proof.Proofs

open Sys2Proof.Machine Sys2Proof.Laws

/-! ### What the core leaves alone of the host's side -/

/-- From `s` to `t` the regions, the parameters and the switches are as they were, and the region contents stay in
canonical form (20_memory.md R60, 00_scope.md R3, R4). -/
structure KeepsHost (s t : State) : Prop where
  regions : t.regions = s.regions
  cfg : t.cfg = s.cfg
  sw : t.sw = s.sw
  wf : Memory.wf s.mem = true → Memory.wf t.mem = true

theorem KeepsHost.trans {s t u : State} (h₁ : KeepsHost s t) (h₂ : KeepsHost t u) : KeepsHost s u :=
  ⟨h₂.regions.trans h₁.regions, h₂.cfg.trans h₁.cfg, h₂.sw.trans h₁.sw, h₂.wf ∘ h₁.wf⟩

/-- What changes no region contents keeps their form. -/
theorem KeepsHost.of_mem {s t : State} (hr : t.regions = s.regions) (hc : t.cfg = s.cfg) (hsw : t.sw = s.sw)
    (hm : t.mem = s.mem) : KeepsHost s t :=
  ⟨hr, hc, hsw, fun h => hm ▸ h⟩

@[simp] theorem keepsHost_refl (s : State) : KeepsHost s s := .of_mem rfl rfl rfl rfl

@[simp] theorem keepsHost_flags (s : State) (fl : FlagNibble) : KeepsHost s { s with flags := fl } :=
  .of_mem rfl rfl rfl rfl

@[simp] theorem keepsHost_pc (s : State) (a : Word) : KeepsHost s { s with pc := a } :=
  .of_mem rfl rfl rfl rfl

@[simp] theorem keepsHost_setXw (s : State) (r : WReg) (v : Word) : KeepsHost s (setXw s r v) :=
  .of_mem rfl rfl rfl rfl

@[simp] theorem keepsHost_effAddr (m : Mode) (z : Size) (s : State) : KeepsHost s (effAddr m z s).2 :=
  .of_mem (by simp) (by simp) (by simp) (by simp)

@[simp] theorem keepsHost_memWrite8 (a : Word) (v : Byte) (s : State) : KeepsHost s (memWrite8 a v s) :=
  ⟨by simp, by simp, by simp, wf_memWrite8 a v⟩

@[simp] theorem keepsHost_memWrite16 (a v : Word) (s : State) : KeepsHost s (memWrite16 a v s) :=
  ⟨by simp, by simp, by simp, wf_memWrite16 a v⟩

@[simp] theorem keepsHost_push8 (v : Byte) (s : State) : KeepsHost s (push8 v s) :=
  ⟨by simp, by simp, by simp, wf_push8 v⟩

@[simp] theorem keepsHost_push16 (v : Word) (s : State) : KeepsHost s (push16 v s) :=
  ⟨by simp, by simp, by simp, wf_push16 v⟩

/-! ### The instructions that write no memory but registers -/

@[simp] theorem keepsHost_unaryByte (law : Byte → Nat → FlagNibble → Byte × FlagNibble) (r n : Nibble) (s : State) :
    KeepsHost s (unaryByte law r n s) :=
  .of_mem rfl rfl rfl rfl

@[simp] theorem keepsHost_unaryWord (law : Word → Nat → FlagNibble → Word × FlagNibble) (r : WReg) (n : Nibble)
    (s : State) : KeepsHost s (unaryWord law r n s) :=
  .of_mem rfl rfl rfl rfl

@[simp] theorem keepsHost_binaryByte (law : Byte → Byte → FlagNibble → Byte × FlagNibble) (src dst : Nibble)
    (s : State) : KeepsHost s (binaryByte law src dst s) :=
  .of_mem rfl rfl rfl rfl

@[simp] theorem keepsHost_binaryWord (law : Word → Word → FlagNibble → Word × FlagNibble) (src dst : WReg)
    (s : State) : KeepsHost s (binaryWord law src dst s) :=
  .of_mem rfl rfl rfl rfl

@[simp] theorem keepsHost_branch (c : Nibble) (disp : Byte) (s : State) : KeepsHost s (branch c disp s) :=
  .of_mem rfl rfl rfl rfl

@[simp] theorem keepsHost_interruptReturn (s : State) : KeepsHost s (interruptReturn s) :=
  .of_mem rfl rfl rfl rfl

@[simp] theorem keepsHost_loadByte (i : Nibble) (m : Mode) (s : State) : KeepsHost s (loadByte i m s) := by
  apply KeepsHost.of_mem <;> simp [loadByte]

@[simp] theorem keepsHost_loadWord (r : WReg) (m : Mode) (s : State) : KeepsHost s (loadWord r m s) := by
  apply KeepsHost.of_mem <;> simp [loadWord]

@[simp] theorem keepsHost_loadTable (b : BitVec 3) (k : Nat) (e : BitVec 5) (a : Word) (s : State) :
    KeepsHost s (loadTable b k e a s) := by
  apply KeepsHost.of_mem <;> simp

@[simp] theorem keepsHost_blockCompare (k : Nat) (src dst : Word) (eq : Bool) (s : State) :
    KeepsHost s (blockCompare k src dst eq s).2 := by
  apply KeepsHost.of_mem <;> simp

@[simp] theorem keepsHost_jump (m : Mode) (s : State) : KeepsHost s (jump m s) :=
  (keepsHost_effAddr m .word s).trans (keepsHost_pc _ _)

@[simp] theorem keepsHost_returnSubroutine (s : State) : KeepsHost s (returnSubroutine s) := by
  apply KeepsHost.of_mem <;> simp [returnSubroutine]

@[simp] theorem keepsHost_returnSystemCall (s : State) : KeepsHost s (returnSystemCall s) := by
  apply KeepsHost.of_mem <;> simp [returnSystemCall]

@[simp] theorem keepsHost_popRegisters (r n : Nibble) (s : State) : KeepsHost s (popRegisters r n s) := by
  apply KeepsHost.of_mem <;> simp [popRegisters]

@[simp] theorem keepsHost_fetchInstr (s : State) : KeepsHost s (fetchInstr s).2 := by
  apply KeepsHost.of_mem <;> simp

/-! ### The instructions that store -/

@[simp] theorem keepsHost_storeByte (i : Nibble) (m : Mode) (s : State) : KeepsHost s (storeByte i m s) :=
  ((keepsHost_effAddr m .byte s).trans (keepsHost_memWrite8 _ _ _)).trans (keepsHost_flags _ _)

@[simp] theorem keepsHost_storeWord (r : WReg) (m : Mode) (s : State) : KeepsHost s (storeWord r m s) :=
  ((keepsHost_effAddr m .word s).trans (keepsHost_memWrite16 _ _ _)).trans (keepsHost_flags _ _)

@[simp] theorem keepsHost_storeTable (b : BitVec 3) (k : Nat) (e : BitVec 5) (a : Word) (s : State) :
    KeepsHost s (storeTable b k e a s) :=
  ⟨by simp, by simp, by simp, wf_storeTable b k e a⟩

@[simp] theorem keepsHost_blockCopy (k : Nat) (src dst : Word) (s : State) : KeepsHost s (blockCopy k src dst s) :=
  ⟨by simp, by simp, by simp, wf_blockCopy k src dst⟩

@[simp] theorem keepsHost_pushRegisters (r n : Nibble) (s : State) : KeepsHost s (pushRegisters r n s) :=
  have hrun : KeepsHost s (pushRun r (n.toNat + 1) (getXw s .S) s).2 :=
    ⟨by simp, by simp, by simp, wf_pushRun r (n.toNat + 1) (getXw s .S)⟩
  hrun.trans (keepsHost_setXw _ _ _)

@[simp] theorem keepsHost_callSubroutine (m : Mode) (s : State) : KeepsHost s (callSubroutine m s) :=
  (((keepsHost_effAddr m .word s).trans (keepsHost_push16 _ _)).trans (keepsHost_setXw _ _ _)).trans (keepsHost_pc _ _)

/-- JSYS stores by its four pushes alone (46_jump_call_stack.md R362). -/
@[simp] theorem keepsHost_systemCall (arg : Byte) (s : State) : KeepsHost s (systemCall arg s) :=
  have hpush := (((keepsHost_push8 _ s).trans (keepsHost_push8 _ _)).trans (keepsHost_push16 _ _)).trans
    (keepsHost_push8 arg _)
  hpush.trans (.of_mem rfl rfl rfl rfl)

/-! ### What a step leaves alone of the host's side -/

/-- Each constructor is Fatal, sets a register of the core alone, or is one of the operations above. -/
theorem exec_keepsHost {i : Instr} {s t : State} (h : exec i s = .next t) : KeepsHost s t := by
  have hr := fatalReason_of_next h
  cases i with
  | hlt | ei | di | sf | rf | cf | sl | rl | cl | lddma | lddmc | sdmam | edma | ddma =>
    cases h; exact .of_mem rfl rfl rfl rfl
  | bcmp n src dst =>
    cases h; exact (keepsHost_blockCompare (n.toNat + 1) src dst true s).trans (keepsHost_flags _ _)
  | _ => cases hr <;> (obtain rfl := Host.Outcome.next.inj h; simp)

theorem step_keepsHost {s t : State} (h : step s = .next t) : KeepsHost s t := by
  cases hs : s.halted with
  | true => exact eq_of_step_halted hs h ▸ keepsHost_refl s
  | false =>
    rw [step_of_running hs] at h
    exact (keepsHost_fetchInstr s).trans (exec_keepsHost h)

/-! ### OPCOUNT within its width -/

/-- A running step leaves a count just taken modulo its width (00_scope.md R3). -/
theorem step_opcountFits {s t : State} (h : step s = .next t) (hfit : opcountFits s.cfg s.opcount = true) :
    opcountFits t.cfg t.opcount = true := by
  cases hs : s.halted with
  | true => rwa [eq_of_step_halted hs h]
  | false => rw [(step_keepsHost h).cfg, step_opcount hs h, opcountFits_countOpcode]

/-! ### The regions under registration -/

theorem overlaps_comm (r q : Region) : Region.overlaps r q = Region.overlaps q r := Bool.and_comm ..

/-- A region that meets none of the registered ones may stand after them: no region meets another
(20_memory.md R61). -/
theorem regionsOk_append {regions : List Region} {r : Region} (h : regionsOk regions = true)
    (hr : registrable regions r = true) : regionsOk (regions ++ [r]) = true := by
  induction regions with
  | nil => simpa [regionsOk] using hr
  | cons q rest ih =>
    simp only [regionsOk, registrable, List.all_cons, List.cons_append, List.all_append, List.all_nil,
      Bool.and_true, Bool.and_eq_true] at h hr ih ⊢
    obtain ⟨⟨hq, hqrest⟩, hrest⟩ := h
    obtain ⟨hlen, hrq, hrrest⟩ := hr
    exact ⟨⟨hq, hqrest, overlaps_comm q r ▸ hrq⟩, ih hrest ⟨hlen, hrrest⟩⟩

/-! ### The invariant -/

/-- A core just reset meets the invariant where the host's side does: OPCOUNT is 0. -/
theorem inv_resetWith (cfg : Config) (sw : Nibble) (devLog : List BusEvent) {regions : List Region}
    {mem : List Host.Cell} (hmem : Memory.wf mem = true) (hreg : regionsOk regions = true) :
    (State.resetWith cfg sw regions mem devLog).Inv :=
  ⟨hmem, hreg, opcountFits_zero cfg⟩

/-- An interrupt taken touches the core's registers alone, one refused nothing. -/
theorem inv_triggerInterrupt {s : State} (level : Nat) (h : s.Inv) : (triggerInterrupt level s).Inv := by
  cases hacc : interruptAccepted s (BitVec.ofNat 4 level) with
  | true =>
    have ht : triggerInterrupt level s = interruptEntry (BitVec.ofNat 4 level) s := if_pos hacc
    rw [ht]
    exact h
  | false => rwa [trigger_refused hacc]

/-- Settles O3: the host's side by `step_keepsHost`, OPCOUNT by `step_opcountFits`. -/
theorem stepKeepsInvariant : Obligations.StepKeepsInvariant := by
  rintro s t ⟨hmem, hreg, hfit⟩ h
  have hk := step_keepsHost h
  exact ⟨⟨hk.wf hmem, hk.regions ▸ hreg, step_opcountFits h hfit⟩, hk.regions, hk.cfg, hk.sw⟩

/-- Settles O4: reset puts OPCOUNT at 0, a registration is checked by the model, a store keeps the canonical form. -/
theorem hostKeepsInvariant : Obligations.HostKeepsInvariant := by
  intro a s t hinv h
  obtain ⟨hmem, hreg, hfit⟩ := hinv
  cases a with
  | reset => cases h; exact inv_resetWith s.cfg s.sw s.devLog hmem hreg
  | trigger level => cases h; exact inv_triggerInterrupt level ⟨hmem, hreg, hfit⟩
  | switches sw => cases h; exact ⟨hmem, hreg, hfit⟩
  | register r =>
    simp only [hostAct] at h
    split at h
    · next hr => cases h; exact ⟨hmem, regionsOk_append hreg hr, hfit⟩
    · cases h
  | store p v => cases h; exact ⟨wf_write p v hmem, hreg, hfit⟩
  | deviceEvent tag => cases h; exact ⟨hmem, hreg, hfit⟩

/-- Settles O2: nothing is stored and no region registered (10_state.md R42). -/
theorem invariantAtReset : Obligations.InvariantAtReset := inv_resetWith {} 0 [] wf_reset rfl

end Sys2Proof.Proofs
end

section
/-! Translation and the byte and word accesses, each kind of place told apart (20_memory.md R62 to R76). -/

namespace Sys2Proof.Proofs

open Sys2Proof.Machine Sys2Proof.Laws

/-! ### Translation -/

/-- The entry is the high part, the low eleven address bits the low part (20_memory.md R74). -/
theorem translate_toNat (s : State) (a : Word) : (Machine.translate s a).toNat =
    (ptEntry s s.mb (BitVec.ofNat 5 (a.toNat / 2048))).toNat * 2048 + a.toNat % 2048 := by
  have hidx : a.extractLsb' 11 5 = BitVec.ofNat 5 (a.toNat / 2048) :=
    BitVec.eq_of_toNat_eq (by simp [BitVec.extractLsb'_toNat, Nat.shiftRight_eq_div_pow])
  have hlow : (a.extractLsb' 0 11).toNat = a.toNat % 2048 := by simp [BitVec.extractLsb'_toNat]
  rw [Machine.translate, hidx, BitVec.toNat_append, ← Nat.shiftLeft_add_eq_or_of_lt (a.extractLsb' 0 11).isLt,
    Nat.shiftLeft_eq, hlow]

/-- After reset every bank has the same entries, so that MB does not matter (10_state.md R42). -/
theorem translate_reset (mb : BitVec 3) (a : Word) :
    Machine.translate { State.reset with mb := mb } a =
      (State.resetBank[(a.extractLsb' 11 5).toNat]'(a.extractLsb' 11 5).isLt) ++ a.extractLsb' 0 11 := by
  simp [Machine.translate, ptEntry, State.reset, State.resetWith]

/-- Settles O12: the formula by `translate_toNat`, the worked values by `translate_reset`. -/
theorem translationFormula : Obligations.TranslationFormula := by
  refine ⟨fun s a k => ⟨translate_toNat s a, rfl⟩, fun mb => ?_⟩
  simp only [translate_reset]
  decide

/-! ### Accesses outside the register file -/

theorem resolve_of_ge (s : State) {a : Word} (ha : 0x100 ≤ a.toNat) : resolve s a = .phys (Machine.translate s a) :=
  if_neg (by omega)

theorem isDevice_of_ge (s : State) {a : Word} (ha : 0x100 ≤ a.toNat) :
    isDevice s a = decide (regionAt s.regions (Machine.translate s a) = some .device) := by
  simp only [isDevice, resolve_of_ge s ha]

theorem isWritable_of_ge (s : State) {a : Word} (ha : 0x100 ≤ a.toNat) :
    isWritable s a = decide (regionAt s.regions (Machine.translate s a) = some .ram) := by
  simp only [isWritable, resolve_of_ge s ha]

theorem isDevice_unmapped {s : State} {a : Word} (ha : 0x100 ≤ a.toNat)
    (h : regionAt s.regions (Machine.translate s a) = none) : isDevice s a = false := by
  rw [isDevice_of_ge s ha, h]; rfl

/-- Where no region is a read answers all ones (20_memory.md R62). -/
theorem readByte_unmapped {s : State} {a : Word} (ha : 0x100 ≤ a.toNat)
    (h : regionAt s.regions (Machine.translate s a) = none) : readByte s a = 0xFF := by
  simp only [readByte, resolve_of_ge s ha, physByte, h]

/-- A write outside RAM and the devices is dropped (20_memory.md R63, R64). -/
theorem memWrite8_of_ge_dropped {s : State} {a : Word} (v : Byte) (ha : 0x100 ≤ a.toNat)
    (hram : regionAt s.regions (Machine.translate s a) ≠ some .ram)
    (hdev : regionAt s.regions (Machine.translate s a) ≠ some .device) : memWrite8 a v s = s :=
  memWrite8_dropped v (by simpa [isWritable_of_ge s ha] using hram) (by simpa [isDevice_of_ge s ha] using hdev)

/-- Settles O14: unmapped bytes are no device's, so that reading them changes nothing. -/
theorem unmappedAccess : Obligations.UnmappedAccess := by
  intro s a v ha
  refine ⟨fun hnone => ⟨?_, ?_, fun ha' hnone' => ?_⟩, fun hrom => ?_⟩
  · rw [memRead8_quiet (isDevice_unmapped ha hnone), readByte_unmapped ha hnone]
  · exact memWrite8_of_ge_dropped v ha (by simp [hnone]) (by simp [hnone])
  · rw [memRead16_quiet (isDevice_unmapped ha hnone) (isDevice_unmapped ha' hnone'),
      readByte_unmapped ha hnone, readByte_unmapped ha' hnone']
    rfl
  · exact memWrite8_of_ge_dropped v ha (by simp [hrom]) (by simp [hrom])

/-! ### Accesses to a device -/

theorem regionAt_of_isDevice {s : State} {a : Word} {p : PAddr} (hd : isDevice s a = true)
    (hp : resolve s a = .phys p) : regionAt s.regions p = some .device := by
  simpa [isDevice, hp] using hd

/-- A device's read is recorded and changes nothing else (20_memory.md R66). -/
theorem readDone_device {s : State} {a : Word} {p : PAddr} (hd : isDevice s a = true)
    (hp : resolve s a = .phys p) : readDone s a = { s with devLog := .read p :: s.devLog } := by
  simp only [readDone, hp, physReadDone, regionAt_of_isDevice hd hp]

/-- A device's write is recorded and changes nothing else (20_memory.md R66). -/
theorem memWrite8_device {s : State} {a : Word} {p : PAddr} (v : Byte) (hd : isDevice s a = true)
    (hp : resolve s a = .phys p) : memWrite8 a v s = { s with devLog := .write p v :: s.devLog } := by
  simp only [memWrite8, hp, physWrite, regionAt_of_isDevice hd hp]

/-- Settles O15: the two laws of one write, and a device's record of it. -/
theorem writeThenRead : Obligations.WriteThenRead := by
  intro s a v hwf
  exact ⟨fun ha _ hb => readByte_memWrite8_same v hwf ha hb, fun _ hb hd => readByte_memWrite8_ne v hb hd,
    fun _ hd hp => memWrite8_device v hd hp⟩

/-! ### Word accesses -/

/-- Two devices see a word's reads in the order of its bytes (20_memory.md R65, R71). -/
theorem memRead16_device {s : State} {a : Word} {p q : PAddr} (hd : isDevice s a = true) (hp : resolve s a = .phys p)
    (hd' : isDevice s (a + 1) = true) (hq : resolve s (a + 1) = .phys q) :
    (memRead16 a s).2 = { s with devLog := .read q :: .read p :: s.devLog } := by
  change readDone (readDone s a) (a + 1) = _
  rw [readDone_device hd hp]
  exact readDone_device (s := { s with devLog := .read p :: s.devLog }) hd' hq

/-- Two devices see a word's writes in the order of its bytes (20_memory.md R65, R72). -/
theorem memWrite16_device {s : State} {a : Word} {p q : PAddr} (v : Word) (hd : isDevice s a = true)
    (hp : resolve s a = .phys p) (hd' : isDevice s (a + 1) = true) (hq : resolve s (a + 1) = .phys q) :
    memWrite16 a v s = { s with devLog := .write q (loByte v) :: .write p (hiByte v) :: s.devLog } := by
  rw [memWrite16, memWrite8_device _ hd hp]
  exact memWrite8_device (s := { s with devLog := .write p (hiByte v) :: s.devLog }) _ hd' hq

@[simp] theorem resolve_memWrite8 (s : State) (a b : Word) (v : Byte) :
    resolve (memWrite8 a v s) b = resolve s b :=
  resolve_congr (by simp) (by simp) b

@[simp] theorem isDevice_memWrite8 (s : State) (a b : Word) (v : Byte) :
    isDevice (memWrite8 a v s) b = isDevice s b :=
  isDevice_congr (by simp) (by simp) (by simp) b

@[simp] theorem isWritable_memWrite8 (s : State) (a b : Word) (v : Byte) :
    isWritable (memWrite8 a v s) b = isWritable s b :=
  isWritable_congr (by simp) (by simp) (by simp) b

/-- The high byte of a word written is at its address: the low byte goes to another place (20_memory.md R67). -/
theorem readByte_memWrite16_hi {s : State} {a : Word} (v : Word) (hwf : Memory.wf s.mem = true)
    (ha : isWritable s a = true) : readByte (memWrite16 a v s) a = hiByte v := by
  rw [memWrite16, readByte_memWrite8_ne _ (by simpa using (resolve_succ_ne s a).symm)
    (by simpa using writable_not_device ha)]
  exact readByte_memWrite8_same _ hwf ha rfl

/-- The low byte of a word written is at the next address (20_memory.md R67). -/
theorem readByte_memWrite16_lo {s : State} {a : Word} (v : Word) (hwf : Memory.wf s.mem = true)
    (ha : isWritable s (a + 1) = true) : readByte (memWrite16 a v s) (a + 1) = loByte v :=
  readByte_memWrite8_same _ (wf_memWrite8 a _ hwf) (by simpa using ha) rfl

/-- A word write leaves the byte of every other place alone, a device's apart. -/
theorem readByte_memWrite16_ne {s : State} {a b : Word} (v : Word) (ha : resolve s b ≠ resolve s a)
    (ha' : resolve s b ≠ resolve s (a + 1)) (hd : isDevice s b = false) :
    readByte (memWrite16 a v s) b = readByte s b := by
  rw [memWrite16, readByte_memWrite8_ne _ (by simpa using ha') (by simpa using hd), readByte_memWrite8_ne _ ha hd]

/-- A word written to writable bytes is the word read back (20_memory.md R65). -/
theorem memRead16_memWrite16 {s : State} {a : Word} (v : Word) (hwf : Memory.wf s.mem = true)
    (ha : isWritable s a = true) (ha' : isWritable s (a + 1) = true) :
    memRead16 a (memWrite16 a v s) = (v, memWrite16 a v s) := by
  rw [memRead16_quiet (by simpa [memWrite16] using writable_not_device ha)
    (by simpa [memWrite16] using writable_not_device ha'), readByte_memWrite16_hi v hwf ha,
    readByte_memWrite16_lo v hwf ha', wordOf_bytes]

/-- Settles O16: the two accesses are the definitions, the rest the lemmas of this part. -/
theorem wordAccess : Obligations.WordAccess := by
  intro s a v
  refine ⟨rfl, rfl, fun p q hd hp hd' hq => ?_, memRead16_quiet, fun hwf ha ha' => ?_⟩
  · exact ⟨memRead16_device hd hp hd' hq, memWrite16_device v hd hp hd' hq⟩
  · exact ⟨memRead16_memWrite16 v hwf ha ha', readByte_memWrite16_hi v hwf ha, readByte_memWrite16_lo v hwf ha',
      fun _ => readByte_memWrite16_ne v⟩

end Sys2Proof.Proofs
end

section
/-! The encoder and the decoder undo each other (30_encoding.md R100 to R107, R118, R119). Each format is treated once
in each direction: `run_…` says what its tree answers on the bytes the encoder gives, `…_faithful` that the bytes it
read are the encoding of what it answers. -/

namespace Sys2Proof.Proofs

open Sys2Proof.Machine Sys2Proof.Laws

/-! ### Decoding what was encoded: the fields -/

@[simp] theorem hiNibble_modeByte (r : Nibble) (d i : Bool) (st : IdxStep) : hiNibble (modeByte r d i st) = r :=
  hiNibble_append _ _

theorem modeByte_low (r : Nibble) (d i : Bool) (st : IdxStep) :
    (modeByte r d i st).extractLsb' 0 2 = st.bits ∧ (modeByte r d i st)[3] = d ∧ (modeByte r d i st)[2] = i := by
  cases st <;> revert r d i <;> decide

@[simp] theorem modeByte_mm (r : Nibble) (d i : Bool) (st : IdxStep) :
    (modeByte r d i st).extractLsb' 0 2 = st.bits :=
  (modeByte_low r d i st).1

@[simp] theorem modeByte_bit_d (r : Nibble) (d i : Bool) (st : IdxStep) : (modeByte r d i st)[3] = d :=
  (modeByte_low r d i st).2.1

@[simp] theorem modeByte_bit_i (r : Nibble) (d i : Bool) (st : IdxStep) : (modeByte r d i st)[2] = i :=
  (modeByte_low r d i st).2.2

/-- No step is encoded by `mm = 3` (30_encoding.md R103). -/
@[simp] theorem bits_ne_three (st : IdxStep) : st.bits ≠ 3#2 := by cases st <;> decide

@[simp] theorem mm3_low (h : BitVec 6) : (h ++ 3#2 : Byte).extractLsb' 0 2 = 3#2 := by revert h; decide

@[simp] theorem mm3_high (h : BitVec 6) : (h ++ 3#2 : Byte).extractLsb' 2 6 = h := by revert h; decide

@[simp] theorem lowBank_bit3 (b : BitVec 3) : (lowBank b)[3] = false := lowBank_bit b

@[simp] theorem highBank_bit3 (b : BitVec 3) : (highBank b)[3] = true := highBank_bit b

/-! ### Decoding what was encoded: the formats -/

@[simp] theorem run_done (i : Instr) (rest : List Byte) : (Dec.done i).run rest = .ok (i, rest) := rfl

@[simp] theorem run_byte (k : Byte → Dec) (b : Byte) (rest : List Byte) :
    (Dec.byte k).run (b :: rest) = (k b).run rest := rfl

@[simp] theorem run_decByte (f : Byte → Instr) (b : Byte) (rest : List Byte) :
    (decByte f).run (b :: rest) = .ok (f b, rest) := rfl

@[simp] theorem run_decNibbles (f : Nibble → Nibble → Instr) (r n : Nibble) (rest : List Byte) :
    (decNibbles f).run ((r ++ n) :: rest) = .ok (f r n, rest) := by
  simp [decNibbles]

@[simp] theorem run_decWord (k : Word → Dec) (a : Word) (rest : List Byte) :
    (decWord k).run (hiByte a :: loByte a :: rest) = (k a).run rest := by
  simp [decWord]

@[simp] theorem run_decUnaryWord (f : WReg → Nibble → Instr) (odd : BitVec 3 → Nibble → Instr) (r : WReg)
    (n : Nibble) (rest : List Byte) : (decUnaryWord f odd).run ((r.hi ++ n) :: rest) = .ok (f r n, rest) := by
  simp [decUnaryWord]

@[simp] theorem run_decUnaryWord_odd (f : WReg → Nibble → Instr) (odd : BitVec 3 → Nibble → Instr) (k : BitVec 3)
    (n : Nibble) (rest : List Byte) : (decUnaryWord f odd).run ((oddSel k ++ n) :: rest) = .ok (odd k n, rest) := by
  simp [decUnaryWord]

section
variable (f : WReg → WReg → Instr) (oddSrc : BitVec 3 → Nibble → Instr) (oddDst : WReg → BitVec 3 → Instr)

@[simp] theorem run_decBinaryWord (src dst : WReg) (rest : List Byte) :
    (decBinaryWord f oddSrc oddDst).run ((src.hi ++ dst.hi) :: rest) = .ok (f src dst, rest) := by
  simp [decBinaryWord]

@[simp] theorem run_decBinaryWord_oddSrc (src : BitVec 3) (dst : Nibble) (rest : List Byte) :
    (decBinaryWord f oddSrc oddDst).run ((oddSel src ++ dst) :: rest) = .ok (oddSrc src dst, rest) := by
  simp [decBinaryWord]

@[simp] theorem run_decBinaryWord_oddDst (src : WReg) (dst : BitVec 3) (rest : List Byte) :
    (decBinaryWord f oddSrc oddDst).run ((src.hi ++ oddSel dst) :: rest) = .ok (oddDst src dst, rest) := by
  simp [decBinaryWord]

end

@[simp] theorem run_decBlock (f : Byte → Word → Word → Instr) (n : Byte) (src dst : Word) (rest : List Byte) :
    (decBlock f).run (n :: hiByte src :: loByte src :: hiByte dst :: loByte dst :: rest) =
      .ok (f n src dst, rest) := by
  simp [decBlock]

/-- The sub-opcode is tested before the bank (43_mmu_dma_block.md R240). -/
theorem run_decMmu_reserved {code : Nibble} (low : Nibble) (rest : List Byte) (h : 2 ≤ code.toNat) :
    decMmu.run ((code ++ low) :: rest) = .ok (.reserved2E code low, rest) := by
  simp only [decMmu, run_byte, hiNibble_append, loNibble_append]
  split
  · omega
  · omega
  · rfl

theorem run_decDma_sub8 (r : Nibble) (code : BitVec 3) (rest : List Byte) :
    decDma.run ((r ++ highBank code) :: rest) = .ok (.reserved2FSub8 r code, rest) := by
  obtain ⟨k⟩ := code
  fin_cases k <;> simp [decDma, highBank, lowThree]

/-! ### Decoding what was encoded: the addressing modes -/

section
variable (f : Mode → Instr) (mm3 : BitVec 6 → Instr) (odd : BitVec 3 → Bool → Bool → IdxStep → Instr)
  (m6 m7 : Instr) (rest : List Byte)

@[simp] theorem run_decIndexed_mm3 (h : BitVec 6) :
    (decIndexed f mm3 odd).run ((h ++ 3#2) :: rest) = .ok (mm3 h, rest) := by
  simp [decIndexed]

@[simp] theorem run_decIndexed_odd (r : BitVec 3) (d ind : Bool) (st : IdxStep) :
    (decIndexed f mm3 odd).run (modeByte (oddSel r) d ind st :: rest) = .ok (odd r d ind st, rest) := by
  simp [decIndexed]

@[simp] theorem run_decIndexed (r : WReg) (st : IdxStep) (ind : Bool) (disp : Option Byte) :
    (decIndexed f mm3 odd).run ((Mode.indexed r st ind disp).tail ++ rest) =
      .ok (f (.indexed r st ind disp), rest) := by
  cases disp <;> simp [decIndexed, Mode.tail]

theorem run_decTail {m : Mode} (h : m.isTarget = true) :
    (decTail f mm3 odd m.number.toNat).run (m.tail ++ rest) = .ok (f m, rest) := by
  cases m with
  | literal | register => cases h
  | direct | indirect | relative | relIndirect => simp [decTail, Mode.number, Mode.tail]
  | indexed r st ind disp => exact run_decIndexed f mm3 odd rest r st ind disp

theorem decLow_target {m : Mode} (h : m.isTarget = true) :
    decLow f mm3 odd m6 m7 m.number.toNat = decTail f mm3 odd m.number.toNat := by
  cases m with
  | literal | register => cases h
  | _ => rfl

theorem run_decLow {m : Mode} (h : m.isRegister = false) :
    (decLow f mm3 odd m6 m7 m.number.toNat).run (m.tail ++ rest) = .ok (f m, rest) := by
  cases ht : m.isTarget with
  | true => exact decLow_target f mm3 odd m6 m7 ht ▸ run_decTail f mm3 odd rest ht
  | false =>
    cases m with
    | literal => rfl
    | register => cases h
    | _ => cases ht

theorem decFull_low {m : Mode} (h : m.isRegister = false) :
    decFull f mm3 odd m6 m7 m.number = decLow f mm3 odd m6 m7 m.number.toNat := by
  cases m with
  | register => cases h
  | _ => simp only [Mode.number]; rfl

theorem run_decFull (m : Mode) :
    (decFull f mm3 odd m6 m7 m.number).run (m.tail ++ rest) = .ok (f m, rest) := by
  cases hm : m.isRegister with
  | false => exact decFull_low f mm3 odd m6 m7 hm ▸ run_decLow f mm3 odd m6 m7 rest hm
  | true =>
    cases m with
    | register r => simp [decFull, Mode.number, Mode.tail]
    | _ => cases hm

end

theorem decGroup6_load {m : Mode} (h : m.isRegister = false) :
    decGroup6 m.number = decLow .ldx .ldxMm3 .ldxOddIndex .ldxMode6 .ldxMode7 m.number.toNat := by
  cases m with
  | register => cases h
  | _ => simp only [Mode.number]; rfl

theorem decGroup6_store {m : Mode} (h : m.isRegister = false) :
    decGroup6 (0x8#4 ||| m.number) = decLow .stx .stxMm3 .stxOddIndex .stxMode6 .stxMode7 m.number.toNat := by
  cases m with
  | register => cases h
  | _ => simp only [Mode.number]; rfl

theorem decGroup7_jump {m : Mode} (h : m.isTarget = true) :
    decGroup7 m.number = decTail .jmp .jmpMm3 .jmpOddIndex m.number.toNat := by
  cases m with
  | literal | register => cases h
  | _ => simp only [Mode.number]; rfl

theorem decGroup7_call {m : Mode} (h : m.isTarget = true) :
    decGroup7 (0x8#4 ||| m.number) = decTail .jsr .jsrMm3 .jsrOddIndex m.number.toNat := by
  cases m with
  | literal | register => cases h
  | _ => simp only [Mode.number]; rfl

/-! ### Decoding what was encoded: every instruction -/

theorem decode_cons (op : Byte) (rest : List Byte) : decode (op :: rest) = (decodeOp op).run rest := rfl

/-- A well-formed instruction is read back from its encoding: the addressed ones by the trees of their mode, the others
by the tree that the opcode map gives their format. -/
theorem decode_encode {i : Instr} (h : i.wf = true) (rest : List Byte) :
    decode (encode i ++ rest) = .ok (i, rest) := by
  cases i with
  | ldab m | lda m | stab m | sta m | ldbb m | ldb m | stbb m | stb m =>
    simp only [encode, List.cons_append, decode_cons, decodeOp, hiNibble_append, loNibble_append]
    exact run_decFull _ _ _ _ _ rest m
  | ldx m =>
    have hm : m.isRegister = false := by simpa [Instr.wf] using h
    simp only [encode, List.cons_append, decode_cons, decodeOp, hiNibble_append, loNibble_append]
    exact decGroup6_load hm ▸ run_decLow _ _ _ _ _ rest hm
  | stx m =>
    have hm : m.isRegister = false := by simpa [Instr.wf] using h
    simp only [encode, List.cons_append, decode_cons, decodeOp, hiNibble_append, loNibble_append]
    exact decGroup6_store hm ▸ run_decLow _ _ _ _ _ rest hm
  | jmp m =>
    simp only [encode, List.cons_append, decode_cons, decodeOp, hiNibble_append, loNibble_append]
    exact decGroup7_jump h ▸ run_decTail _ _ _ rest h
  | jsr m =>
    simp only [encode, List.cons_append, decode_cons, decodeOp, hiNibble_append, loNibble_append]
    exact decGroup7_call h ▸ run_decTail _ _ _ rest h
  | reserved2E code low =>
    have hc : 2 ≤ code.toNat := by simpa [Instr.wf] using h
    simpa [encode, decode_cons] using run_decMmu_reserved low rest hc
  | reserved2FSub8 r code => simpa [encode, decode_cons] using run_decDma_sub8 r code rest
  | ldmmu | ldmmuBadBank | stmmu | stmmuBadBank => simp [encode, decode_cons, decMmu]
  | edmaPad pad | ddmaPad pad =>
    have hp : pad ≠ 0#4 := by simpa [Instr.wf] using h
    simp [encode, decode_cons, decDma, hp]
  | lddma | lddmaOdd | stdma | stdmaOdd | lddmc | lddmcOdd | stdmc | stdmcOdd | sdmam | reserved2FSub5 =>
    simp [encode, decode_cons, decDma, dmaWord]
  | edma | ddma => rfl
  | _ => simp [encode, decode_cons, decTail, decLow]

/-- Settles O10: the cases of `decode_encode` are the formats. -/
theorem decodeEncode : Obligations.DecodeEncode := fun _ rest h => decode_encode h rest

/-! ### Encoding what was decoded: the tree -/

/-- The instruction is one of those an encoding exists for, and these bytes are its encoding. -/
def EncodedBy (bytes : List Byte) (i : Instr) : Prop := i.wf = true ∧ encode i = bytes

/-- Whatever instruction the tree answers, the bytes before the tree and those the tree read are its encoding. -/
def Faithful : List Byte → Dec → Prop
  | bytes, .done i => EncodedBy bytes i
  | bytes, .byte k => ∀ b, Faithful (bytes ++ [b]) (k b)

@[simp] theorem faithful_done {bytes : List Byte} {i : Instr} :
    Faithful bytes (.done i) ↔ EncodedBy bytes i := Iff.rfl

theorem encoded_of_run {d : Dec} {pre bytes rest : List Byte} {i : Instr} (hd : Faithful pre d)
    (h : d.run bytes = .ok (i, rest)) : i.wf = true ∧ encode i ++ rest = pre ++ bytes := by
  induction d generalizing pre bytes with
  | done j =>
    obtain ⟨hwf, henc⟩ := hd
    simp only [run_done, Except.ok.injEq, Prod.mk.injEq] at h
    obtain ⟨rfl, rfl⟩ := h
    exact ⟨hwf, by rw [henc]⟩
  | byte k ih =>
    cases bytes with
    | nil => cases h
    | cons b bytes => simpa using ih b (hd b) h

theorem encode_length_le (i : Instr) : (encode i).length ≤ 6 := by
  cases i with
  | ldx m | stx m | ldab m | lda m | stab m | sta m | ldbb m | ldb m | stbb m | stb m | jmp m | jsr m =>
    exact (encodeLength_mode _ m).2
  | _ => exact (encodeLength_of rfl).2

/-- No path of a faithful tree is longer than an encoding can be. -/
theorem length_le_of_faithful {d : Dec} {pre : List Byte} (hd : Faithful pre d) : pre.length ≤ 6 := by
  induction d generalizing pre with
  | done i => exact hd.2 ▸ encode_length_le i
  | byte k ih =>
    have := ih 0 (hd 0)
    rw [List.length_append] at this
    omega

/-- A faithful tree that gets six bytes in all does not run out of them. -/
theorem run_ok_of_faithful {d : Dec} {pre bytes : List Byte} (hd : Faithful pre d)
    (h : 6 ≤ pre.length + bytes.length) : ∃ i rest, d.run bytes = .ok (i, rest) := by
  induction d generalizing pre bytes with
  | done i => exact ⟨i, bytes, rfl⟩
  | byte k ih =>
    cases bytes with
    | nil =>
      have hlen := length_le_of_faithful (hd 0)
      simp only [List.length_append, List.length_cons, List.length_nil] at hlen h
      omega
    | cons b bytes => exact ih b (hd b) (by simp only [List.length_append, List.length_cons] at h ⊢; omega)

/-! ### Encoding what was decoded: the fields -/

theorem eq_append_nibbles (b : Byte) : ∃ h l : Nibble, b = h ++ l := ⟨_, _, (nibbles_append b).symm⟩

/-- A register field is odd, or a word register's (30_encoding.md R119). -/
theorem eq_oddSel_or_hi (n : Nibble) : (∃ k, n = oddSel k) ∨ ∃ r : WReg, n = r.hi := by
  cases h : isOdd n with
  | true => exact .inl ⟨selOf n, (oddSel_selOf h).symm⟩
  | false => exact .inr ⟨wregOf n, (hi_wregOf h).symm⟩

/-- A nibble is below 8, or from 8 on. -/
theorem eq_lowBank_or_highBank (n : Nibble) : (∃ b, n = lowBank b) ∨ ∃ b, n = highBank b := by revert n; decide

theorem or_lowBank (b : BitVec 3) : 0x8#4 ||| lowBank b = highBank b := by revert b; decide

@[simp] theorem toNat_lowBank (b : BitVec 3) : (lowBank b).toNat = b.toNat := by revert b; decide

/-- A mode byte has `mm = 3`, or is made of its four fields (30_encoding.md R103). -/
theorem eq_mm3_or_modeByte (b : Byte) : (∃ h : BitVec 6, b = h ++ 3#2) ∨ ∃ r d i st, b = modeByte r d i st := by
  by_cases h : b.extractLsb' 0 2 = 3
  · exact .inl ⟨b.extractLsb' 2 6, by revert b; decide⟩
  · exact .inr ⟨hiNibble b, b.getLsbD 3, b.getLsbD 2, IdxStep.ofBits (b.extractLsb' 0 2), by revert b; decide⟩

/-! ### Encoding what was decoded: the formats -/

theorem decByte_faithful {op : Byte} {f : Byte → Instr} (h : ∀ b, EncodedBy [op, b] (f b)) :
    Faithful [op] (decByte f) := h

theorem decNibbles_faithful {op : Byte} {f : Nibble → Nibble → Instr}
    (h : ∀ r n, EncodedBy [op, r ++ n] (f r n)) : Faithful [op] (decNibbles f) := by
  intro b
  have hb := h (hiNibble b) (loNibble b)
  rwa [nibbles_append] at hb

theorem decWord_faithful {pre : List Byte} {k : Word → Dec}
    (h : ∀ a, Faithful (pre ++ [hiByte a, loByte a]) (k a)) : Faithful pre (decWord k) := by
  intro b l
  simpa using h (wordOf b l)

theorem decUnaryWord_faithful {op : Byte} {f : WReg → Nibble → Instr} {odd : BitVec 3 → Nibble → Instr}
    (hf : ∀ r n, EncodedBy [op, r.hi ++ n] (f r n)) (hodd : ∀ k n, EncodedBy [op, oddSel k ++ n] (odd k n)) :
    Faithful [op] (decUnaryWord f odd) := by
  intro b
  obtain ⟨s, n, rfl⟩ := eq_append_nibbles b
  obtain ⟨k, rfl⟩ | ⟨r, rfl⟩ := eq_oddSel_or_hi s
  · simpa using hodd k n
  · simpa using hf r n

theorem decBinaryWord_faithful {op : Byte} {f : WReg → WReg → Instr} {oddSrc : BitVec 3 → Nibble → Instr}
    {oddDst : WReg → BitVec 3 → Instr} (hf : ∀ r q, EncodedBy [op, r.hi ++ q.hi] (f r q))
    (hsrc : ∀ k n, EncodedBy [op, oddSel k ++ n] (oddSrc k n))
    (hdst : ∀ r k, EncodedBy [op, r.hi ++ oddSel k] (oddDst r k)) :
    Faithful [op] (decBinaryWord f oddSrc oddDst) := by
  intro b
  obtain ⟨src, dst, rfl⟩ := eq_append_nibbles b
  obtain ⟨k, rfl⟩ | ⟨r, rfl⟩ := eq_oddSel_or_hi src
  · simpa using hsrc k dst
  · obtain ⟨k, rfl⟩ | ⟨q, rfl⟩ := eq_oddSel_or_hi dst
    · simpa using hdst r k
    · simpa using hf r q

theorem decBlock_faithful {op : Byte} {f : Byte → Word → Word → Instr}
    (h : ∀ n src dst, EncodedBy [op, n, hiByte src, loByte src, hiByte dst, loByte dst] (f n src dst)) :
    Faithful [op] (decBlock f) :=
  fun n => decWord_faithful fun src => decWord_faithful fun dst => h n src dst

/-- The two sub-opcodes of 0x2E that name a bank: the address is fetched for a legal bank only. -/
theorem decBank_faithful {code : Nibble} {f : BitVec 3 → Word → Instr} {bad : BitVec 3 → Instr}
    (hf : ∀ b a, EncodedBy [0x2E, code ++ lowBank b, hiByte a, loByte a] (f b a))
    (hbad : ∀ b, EncodedBy [0x2E, code ++ highBank b] (bad b)) (low : Nibble) :
    Faithful [0x2E, code ++ low] (if low.getLsbD 3 then .done (bad (lowThree low))
      else decWord fun a => .done (f (lowThree low) a)) := by
  obtain ⟨b, rfl⟩ | ⟨b, rfl⟩ := eq_lowBank_or_highBank low
  · rw [if_neg (by simp), lowThree_lowBank]
    exact decWord_faithful (hf b)
  · rw [if_pos (highBank_bit b), lowThree_highBank]
    exact hbad b

theorem decMmu_faithful : Faithful [0x2E] decMmu := by
  intro b
  obtain ⟨code, low, rfl⟩ := eq_append_nibbles b
  simp only [hiNibble_append, loNibble_append]
  obtain ⟨k⟩ := code
  fin_cases k
  iterate 2 exact decBank_faithful (fun _ _ => ⟨rfl, rfl⟩) (fun _ => ⟨rfl, rfl⟩) low
  iterate 14 exact ⟨rfl, rfl⟩

theorem dmaWord_encoded {r low : Nibble} {f : WReg → Instr} {odd : BitVec 3 → Instr}
    (hf : ∀ r, EncodedBy [0x2F, r.hi ++ low] (f r)) (hodd : ∀ k, EncodedBy [0x2F, oddSel k ++ low] (odd k)) :
    EncodedBy [0x2F, r ++ low] (dmaWord r f odd) := by
  obtain ⟨k, rfl⟩ | ⟨r, rfl⟩ := eq_oddSel_or_hi r
  · simpa [dmaWord] using hodd k
  · simpa [dmaWord] using hf r

/-- EDMA and DDMA: a zero pad, or the Fatal row of any other (43_mmu_dma_block.md R243). -/
theorem dmaPad_encoded {r low : Nibble} {i : Instr} {pad : Nibble → Instr} (hi : EncodedBy [0x2F, 0#4 ++ low] i)
    (hpad : ∀ p, p ≠ 0#4 → EncodedBy [0x2F, p ++ low] (pad p)) :
    EncodedBy [0x2F, r ++ low] (if r = 0 then i else pad r) := by
  split
  · next hr => exact hr ▸ hi
  · next hr => exact hpad r hr

theorem decDma_faithful : Faithful [0x2F] decDma := by
  intro b
  obtain ⟨r, low, rfl⟩ := eq_append_nibbles b
  change EncodedBy _ _
  simp only [hiNibble_append, loNibble_append]
  obtain ⟨k⟩ := low
  fin_cases k
  iterate 4 exact dmaWord_encoded (fun _ => ⟨rfl, rfl⟩) fun _ => ⟨rfl, rfl⟩
  iterate 2 exact ⟨rfl, rfl⟩
  iterate 2 exact dmaPad_encoded ⟨rfl, rfl⟩ fun _ hp => ⟨by simpa [Instr.wf] using hp, rfl⟩
  iterate 8 exact ⟨rfl, rfl⟩

/-! ### Encoding what was decoded: the addressing modes -/

/-- What the modes 1 to 5 of an addressed instruction ask of its three constructors; `op` gives the opcode byte of a
mode number. -/
structure Addressed (op : Nibble → Byte) (f : Mode → Instr) (mm3 : BitVec 6 → Instr)
    (odd : BitVec 3 → Bool → Bool → IdxStep → Instr) : Prop where
  target : ∀ m : Mode, m.isTarget = true → EncodedBy (op m.number :: m.tail) (f m)
  mm3 : ∀ h, EncodedBy [op 5, h ++ 3#2] (mm3 h)
  odd : ∀ r d ind st, EncodedBy [op 5, modeByte (oddSel r) d ind st] (odd r d ind st)

section
variable {op : Nibble → Byte} {f : Mode → Instr} {mm3 : BitVec 6 → Instr}
  {odd : BitVec 3 → Bool → Bool → IdxStep → Instr} {m6 m7 : Instr}

theorem decIndexed_faithful (h : Addressed op f mm3 odd) : Faithful [op 5] (decIndexed f mm3 odd) := by
  intro b
  obtain ⟨hi, rfl⟩ | ⟨n, d, ind, st, rfl⟩ := eq_mm3_or_modeByte b
  · simpa using h.mm3 hi
  · obtain ⟨k, rfl⟩ | ⟨r, rfl⟩ := eq_oddSel_or_hi n
    · simpa using h.odd k d ind st
    · cases d with
      | false => simpa [Mode.number, Mode.tail] using h.target (.indexed r st ind none) rfl
      | true =>
        simpa [Faithful, Mode.number, Mode.tail] using fun disp => h.target (.indexed r st ind (some disp)) rfl

theorem decTail_faithful (h : Addressed op f mm3 odd) {b : BitVec 3} (hb : 1 ≤ b.toNat ∧ b.toNat ≤ 5) :
    Faithful [op (lowBank b)] (decTail f mm3 odd b.toNat) := by
  obtain ⟨k⟩ := b
  fin_cases k
  · exact absurd hb (by decide)
  · exact decWord_faithful (k := fun a => .done (f (.direct a))) fun a => h.target (.direct a) rfl
  · exact decWord_faithful (k := fun a => .done (f (.indirect a))) fun a => h.target (.indirect a) rfl
  · exact decByte_faithful fun d => h.target (.relative d) rfl
  · exact decByte_faithful fun d => h.target (.relIndirect d) rfl
  · exact decIndexed_faithful h
  iterate 2 exact absurd hb (by decide)

theorem decLow_faithful (h : Addressed op f mm3 odd) (h0 : EncodedBy [op 0] (f .literal))
    (h6 : EncodedBy [op 6] m6) (h7 : EncodedBy [op 7] m7) (b : BitVec 3) :
    Faithful [op (lowBank b)] (decLow f mm3 odd m6 m7 b.toNat) := by
  obtain ⟨k⟩ := b
  fin_cases k
  · exact h0
  iterate 5 exact decTail_faithful h (by decide)
  · exact h6
  · exact h7

theorem decFull_faithful (h : Addressed op f mm3 odd) (h0 : EncodedBy [op 0] (f .literal))
    (h6 : EncodedBy [op 6] m6) (h7 : EncodedBy [op 7] m7)
    (hreg : ∀ r : WReg, EncodedBy [op (highBank r.sel)] (f (.register r))) (lo : Nibble) :
    Faithful [op lo] (decFull f mm3 odd m6 m7 lo) := by
  obtain ⟨b, rfl⟩ | ⟨b, rfl⟩ := eq_lowBank_or_highBank lo
  · simpa [decFull] using decLow_faithful h h0 h6 h7 b
  · simpa [decFull] using hreg (WReg.ofSel b)

end

/-! ### Encoding what was decoded: every opcode -/

theorem decGroup0_faithful (lo : Nibble) : Faithful [0x0#4 ++ lo] (decGroup0 lo) := by
  obtain ⟨k⟩ := lo
  fin_cases k <;> exact ⟨rfl, rfl⟩

theorem decGroup1_faithful (lo : Nibble) : Faithful [0x1#4 ++ lo] (decGroup1 lo) := by
  obtain ⟨k⟩ := lo
  fin_cases k <;> exact decByte_faithful fun _ => ⟨rfl, rfl⟩

theorem decGroup2_faithful (lo : Nibble) : Faithful [0x2#4 ++ lo] (decGroup2 lo) := by
  obtain ⟨k⟩ := lo
  fin_cases k
  iterate 8 exact decNibbles_faithful fun _ _ => ⟨rfl, rfl⟩
  iterate 6 exact ⟨rfl, rfl⟩
  · exact decMmu_faithful
  · exact decDma_faithful

theorem decGroup3_faithful (lo : Nibble) : Faithful [0x3#4 ++ lo] (decGroup3 lo) := by
  obtain ⟨k⟩ := lo
  fin_cases k
  iterate 8 exact decUnaryWord_faithful (fun _ _ => ⟨rfl, rfl⟩) fun _ _ => ⟨rfl, rfl⟩
  iterate 6 exact ⟨rfl, rfl⟩
  iterate 2 exact decBlock_faithful fun _ _ _ => ⟨rfl, rfl⟩

theorem decGroup4_faithful (lo : Nibble) : Faithful [0x4#4 ++ lo] (decGroup4 lo) := by
  obtain ⟨k⟩ := lo
  fin_cases k
  iterate 6 exact decNibbles_faithful fun _ _ => ⟨rfl, rfl⟩
  iterate 10 exact ⟨rfl, rfl⟩

theorem decGroup5_faithful (lo : Nibble) : Faithful [0x5#4 ++ lo] (decGroup5 lo) := by
  obtain ⟨k⟩ := lo
  fin_cases k
  iterate 6 exact decBinaryWord_faithful (fun _ _ => ⟨rfl, rfl⟩) (fun _ _ => ⟨rfl, rfl⟩) fun _ _ => ⟨rfl, rfl⟩
  iterate 10 exact ⟨rfl, rfl⟩

theorem isRegister_of_isTarget {m : Mode} (h : m.isTarget = true) : m.isRegister = false := by
  cases m with
  | register => cases h
  | _ => rfl

theorem ldx_addressed : Addressed (0x6#4 ++ ·) .ldx .ldxMm3 .ldxOddIndex where
  target _ h := ⟨by simp [Instr.wf, isRegister_of_isTarget h], rfl⟩
  mm3 _ := ⟨rfl, rfl⟩
  odd _ _ _ _ := ⟨rfl, rfl⟩

theorem stx_addressed : Addressed (fun m => 0x6#4 ++ (0x8#4 ||| m)) .stx .stxMm3 .stxOddIndex where
  target _ h := ⟨by simp [Instr.wf, isRegister_of_isTarget h], rfl⟩
  mm3 _ := ⟨rfl, rfl⟩
  odd _ _ _ _ := ⟨rfl, rfl⟩

theorem jmp_addressed : Addressed (0x7#4 ++ ·) .jmp .jmpMm3 .jmpOddIndex where
  target _ h := ⟨h, rfl⟩
  mm3 _ := ⟨rfl, rfl⟩
  odd _ _ _ _ := ⟨rfl, rfl⟩

theorem jsr_addressed : Addressed (fun m => 0x7#4 ++ (0x8#4 ||| m)) .jsr .jsrMm3 .jsrOddIndex where
  target _ h := ⟨h, rfl⟩
  mm3 _ := ⟨rfl, rfl⟩
  odd _ _ _ _ := ⟨rfl, rfl⟩

theorem decGroup6_faithful (lo : Nibble) : Faithful [0x6#4 ++ lo] (decGroup6 lo) := by
  obtain ⟨b, rfl⟩ | ⟨b, rfl⟩ := eq_lowBank_or_highBank lo
  · simpa [decGroup6] using decLow_faithful ldx_addressed ⟨rfl, rfl⟩ ⟨rfl, rfl⟩ ⟨rfl, rfl⟩ b
  · simpa [decGroup6, or_lowBank] using decLow_faithful stx_addressed ⟨rfl, rfl⟩ ⟨rfl, rfl⟩ ⟨rfl, rfl⟩ b

theorem decGroup7_faithful (lo : Nibble) : Faithful [0x7#4 ++ lo] (decGroup7 lo) := by
  obtain ⟨⟨k⟩, rfl⟩ | ⟨⟨k⟩, rfl⟩ := eq_lowBank_or_highBank lo
  · fin_cases k
    · exact ⟨rfl, rfl⟩
    iterate 5 exact decTail_faithful jmp_addressed (by decide)
    · exact decByte_faithful fun _ => ⟨rfl, rfl⟩
    · exact ⟨rfl, rfl⟩
  · rw [← or_lowBank]
    fin_cases k
    · exact ⟨rfl, rfl⟩
    iterate 5 exact decTail_faithful jsr_addressed (by decide)
    iterate 2 exact decNibbles_faithful fun _ _ => ⟨rfl, rfl⟩

theorem decodeOp_faithful (op : Byte) : Faithful [op] (decodeOp op) := by
  obtain ⟨g, lo, rfl⟩ := eq_append_nibbles op
  rw [decodeOp, hiNibble_append, loNibble_append]
  obtain ⟨k⟩ := g
  fin_cases k
  · exact decGroup0_faithful lo
  · exact decGroup1_faithful lo
  · exact decGroup2_faithful lo
  · exact decGroup3_faithful lo
  · exact decGroup4_faithful lo
  · exact decGroup5_faithful lo
  · exact decGroup6_faithful lo
  · exact decGroup7_faithful lo
  all_goals
    exact decFull_faithful (op := (_ ++ ·))
      ⟨fun _ _ => ⟨rfl, rfl⟩, fun _ => ⟨rfl, rfl⟩, fun _ _ _ _ => ⟨rfl, rfl⟩⟩
      ⟨rfl, rfl⟩ ⟨rfl, rfl⟩ ⟨rfl, rfl⟩ (fun _ => ⟨rfl, rfl⟩) lo

/-- Settles O11: the tree of every opcode byte is faithful (`decodeOp_faithful`). -/
theorem encodeDecode : Obligations.EncodeDecode := by
  refine ⟨fun bytes hlen => ?_, fun bytes rest i h => ?_⟩
  · cases bytes with
    | nil => cases hlen
    | cons op bytes =>
      exact run_ok_of_faithful (decodeOp_faithful op) (by simpa [Nat.add_comm] using hlen)
  · cases bytes with
    | nil => cases h
    | cons op bytes => exact encoded_of_run (decodeOp_faithful op) h

/-! ### Samples and reserved encodings -/

/-- Settles O9: the decoder, evaluated on the twelve words. -/
theorem sampleWordsDecode : Obligations.SampleWordsDecode :=
  ⟨rfl, rfl, rfl, rfl, rfl, rfl, rfl, rfl, rfl, rfl, rfl, rfl⟩

/-- Settles O60: each encoding of the list has `.reservedEncoding` as its reason in `fatalReason`. -/
theorem reservedEncodingsStop : Obligations.ReservedEncodingsStop := by
  intro s k a b w d e st i hi
  fin_cases hi <;> exact exec_of_fatalReason_some rfl s

end Sys2Proof.Proofs
end

section
/-! The control group (40_control.md): the simple instructions, the returns from subroutine, interrupt and system call,
and the step that runs the instruction standing at PC (R156). -/

namespace Sys2Proof.Proofs

open Sys2Proof.Machine Sys2Proof.Laws

/-! ### What a pop leaves unchanged, wherever the stack lies -/

/-- `t` is `s` but for the register file and the devices' history. -/
def SameButRegisters (s t : State) : Prop := t = { s with sram := t.sram, devLog := t.devLog }

theorem SameButRegisters.trans {s t u : State} (h₁ : SameButRegisters s t) (h₂ : SameButRegisters t u) :
    SameButRegisters s u :=
  Eq.trans h₂ (congrArg (fun v : State => { v with sram := u.sram, devLog := u.devLog }) h₁)

theorem sameButRegisters_setXw (s : State) (r : WReg) (v : Word) : SameButRegisters s (setXw s r v) := rfl

theorem sameButRegisters_readDone (s : State) (a : Word) : SameButRegisters s (readDone s a) := by
  unfold readDone
  split
  · rfl
  · unfold physReadDone
    split <;> rfl

theorem sameButRegisters_memRead16 (s : State) (a : Word) : SameButRegisters s (memRead16 a s).2 :=
  (sameButRegisters_readDone s a).trans (sameButRegisters_readDone _ (a + 1))

theorem sameButRegisters_pop8 (s : State) : SameButRegisters s (pop8 s).2 :=
  (sameButRegisters_readDone s _).trans (sameButRegisters_setXw _ .S _)

theorem sameButRegisters_pop16 (s : State) : SameButRegisters s (pop16 s).2 :=
  (sameButRegisters_memRead16 s _).trans (sameButRegisters_setXw _ .S _)

/-- RSR changes PC, the register file and perhaps the devices' history (40_control.md R149). -/
theorem returnSubroutine_frame (s : State) :
    SameButRegisters { s with pc := getXw s .X } (returnSubroutine s) :=
  (sameButRegisters_pop16 _).trans (sameButRegisters_setXw _ .X _)

/-- RSYS changes PC, IPL, MB, the register file and perhaps the devices' history (40_control.md R155). -/
theorem returnSystemCall_frame (s : State) :
    SameButRegisters { s with pc := getXw s .X, ipl := (returnSystemCall s).ipl, mb := (returnSystemCall s).mb }
      (returnSystemCall s) := by
  have hpops := (sameButRegisters_pop8 s).trans <| (sameButRegisters_pop16 _).trans <|
    (sameButRegisters_pop8 _).trans <| (sameButRegisters_pop8 _).trans <| sameButRegisters_setXw _ .X
      (pop16 (pop8 s).2).1
  exact congrArg (fun t : State =>
    { t with pc := getXw s .X, ipl := (returnSystemCall s).ipl, mb := (returnSystemCall s).mb }) hpops

/-! ### Pops from quiet bytes -/

theorem isDevice_of_isQuiet {s : State} {a : Word} (h : isQuiet s a = true) : isDevice s a = false := by
  simp only [isQuiet, Bool.and_eq_true, Bool.not_eq_true'] at h
  exact h.2

@[simp] theorem isDevice_setXw (s : State) (r : WReg) (v a : Word) : isDevice (setXw s r v) a = isDevice s a :=
  isDevice_congr rfl rfl rfl a

/-- Of two writes to a word register the second stays. -/
@[simp] theorem setXw_setXw (s : State) (r : WReg) (v w : Word) : setXw (setXw s r v) r w = setXw s r w := by
  have hsram : (setXw (setXw s r v) r w).sram = (setXw s r w).sram := sram_ext fun i => by
    by_cases hhi : i = regIndex s.ipl r.hi
    · subst hhi
      exact (getX_hi_setXw (setXw s r v) r w).trans (getX_hi_setXw s r w).symm
    by_cases hlo : i = regIndex s.ipl r.lo
    · subst hlo
      exact (getX_lo_setXw (setXw s r v) r w).trans (getX_lo_setXw s r w).symm
    rw [sramByte_setXw_ne (setXw s r v) w hhi hlo, sramByte_setXw_ne s v hhi hlo, sramByte_setXw_ne s w hhi hlo]
  exact congrArg (fun m => ({ s with sram := m } : State)) hsram

section
variable {s : State} {p : Word}

/-- A pop with S at a quiet byte of memory answers that byte and leaves S past it (20_memory.md R82). -/
theorem pop8_setXw (h : isQuiet s p = true) : pop8 (setXw s .S p) = (readByte s p, setXw s .S (p + 1)) := by
  rw [pop8_quiet (by simpa using isDevice_of_isQuiet h), getXw_setXw, readByte_setXw_quiet .S p h, setXw_setXw]

/-- A pop with S at a quiet word of memory answers that word and leaves S past it (20_memory.md R83). -/
theorem pop16_setXw (h : isQuiet s p = true) (h' : isQuiet s (p + 1) = true) :
    pop16 (setXw s .S p) = (wordOf (readByte s p) (readByte s (p + 1)), setXw s .S (p + 2)) := by
  rw [pop16_quiet (by simpa using isDevice_of_isQuiet h) (by simpa using isDevice_of_isQuiet h'), getXw_setXw,
    readByte_setXw_quiet .S p h, readByte_setXw_quiet .S p h', setXw_setXw]

end

/-! ### What the returns write to the registers -/

/-- A register depends on IPL and the register file alone (10_state.md R22). -/
theorem getXw_congr {s t : State} (hipl : t.ipl = s.ipl) (hsram : t.sram = s.sram) (r : WReg) :
    getXw t r = getXw s r := by
  simp only [getXw, getX, sramByte, hipl, hsram]

section
variable {s t : State} {x sp : Word} (hsram : t.sram = (setXw (setXw s .S sp) .X x).sram)
include hsram

theorem getXw_X_of_X_S_written (hipl : t.ipl = s.ipl) : getXw t .X = x := by
  rw [getXw_congr (s := setXw (setXw s .S sp) .X x) hipl hsram, getXw_setXw]

theorem getXw_S_of_X_S_written (hipl : t.ipl = s.ipl) : getXw t .S = sp := by
  rw [getXw_congr (s := setXw (setXw s .S sp) .X x) hipl hsram, getXw_setXw_ne _ _ (by decide), getXw_setXw]

/-- Writes to X and S of a bank leave the other bytes of every bank alone (10_state.md R22). -/
theorem sramByte_of_X_S_written (i : Byte) (hXhi : i ≠ regIndex s.ipl WReg.X.hi)
    (hXlo : i ≠ regIndex s.ipl WReg.X.lo) (hShi : i ≠ regIndex s.ipl WReg.S.hi)
    (hSlo : i ≠ regIndex s.ipl WReg.S.lo) : sramByte t i = sramByte s i :=
  calc sramByte t i = sramByte (setXw (setXw s .S sp) .X x) i := by simp only [sramByte, hsram]
    _ = sramByte (setXw s .S sp) i := sramByte_setXw_ne _ x hXhi hXlo
    _ = sramByte s i := sramByte_setXw_ne s sp hShi hSlo

end

/-- RSR with a quiet stack word (40_control.md R149). -/
theorem returnSubroutine_quiet {s : State} (h : isQuiet s (getXw s .S) = true)
    (h' : isQuiet s (getXw s .S + 1) = true) :
    returnSubroutine s =
      { setXw (setXw s .S (getXw s .S + 2)) .X (wordOf (readByte s (getXw s .S)) (readByte s (getXw s .S + 1))) with
        pc := getXw s .X } := by
  have hpop := pop16_quiet (s := { s with pc := getXw s .X }) (isDevice_of_isQuiet h) (isDevice_of_isQuiet h')
  simp only [returnSubroutine, hpop]
  rfl

/-- RSYS with a quiet frame: the argument byte at S, then X, IPL and MB (40_control.md R155). -/
theorem returnSystemCall_quiet {s : State}
    (h : ∀ k : Fin 5, isQuiet s (getXw s .S + BitVec.ofNat 16 k) = true) :
    returnSystemCall s =
      { setXw (setXw s .S (getXw s .S + 5)) .X
          (wordOf (readByte s (getXw s .S + 1)) (readByte s (getXw s .S + 2))) with
        ipl := loNibble (readByte s (getXw s .S + 3))
        mb := (readByte s (getXw s .S + 4)).extractLsb' 0 3
        pc := getXw s .X } := by
  have hArg : isQuiet s (getXw s .S) = true := by simpa using h 0
  have hpopX := pop16_setXw (h 1) (by simpa [BitVec.add_assoc] using h 2)
  have hpopIpl := pop8_setXw (h 3)
  have hpopMb := pop8_setXw (h 4)
  -- Each place in the frame as one sum, S + 1 to S + 5.
  simp only [BitVec.add_assoc, Fin.coe_ofNat_eq_mod, Nat.reduceMod, BitVec.reduceAdd] at hpopX hpopIpl hpopMb
  simp only [returnSystemCall, pop8_quiet (isDevice_of_isQuiet hArg), hpopX, hpopIpl, hpopMb, BitVec.ofNat_eq_ofNat]

/-- Settles O18: the frame holds for every stack, the popped values by `returnSubroutine_quiet`. -/
theorem returnFromSubroutine : Obligations.ReturnFromSubroutine := by
  intro s
  refine ⟨returnSubroutine s, rfl, returnSubroutine_frame s, fun h h' => ?_⟩
  rw [returnSubroutine_quiet h h']
  exact ⟨getXw_X_of_X_S_written rfl rfl, getXw_S_of_X_S_written rfl rfl, rfl, sramByte_of_X_S_written rfl⟩

/-- Settles O20: the frame holds for every stack, the restored values by `returnSystemCall_quiet`. -/
theorem returnFromSystemCall : Obligations.ReturnFromSystemCall := by
  intro s sp
  refine ⟨returnSystemCall s, rfl, returnSystemCall_frame s, fun h => ?_⟩
  rw [returnSystemCall_quiet h]
  exact ⟨rfl, rfl, rfl, getXw_X_of_X_S_written rfl rfl, getXw_S_of_X_S_written rfl rfl, sramByte_of_X_S_written rfl⟩

/-! ### The step at PC -/

theorem pc_succ (pc : Word) (k : Nat) : pc + 1 + BitVec.ofNat 16 k = pc + BitVec.ofNat 16 (k + 1) := by
  rw [Nat.add_comm, BitVec.ofNat_add, BitVec.add_assoc]
  rfl

/-- Bytes standing at PC, none of them a device's, that decode to an instruction are fetched as that instruction, with
PC past them and the opcode counted (40_control.md R156). -/
theorem fetchInstr_quiet {bytes : List Byte} {i : Instr} {s : State} (hdec : decode bytes = .ok (i, []))
    (hread : ∀ k : Fin bytes.length, readByte s (s.pc + BitVec.ofNat 16 k) = bytes.get k ∧
      isDevice s (s.pc + BitVec.ofNat 16 k) = false) :
    fetchInstr s = (i, { s with
      pc := s.pc + BitVec.ofNat 16 bytes.length, opcount := countOpcode s.cfg s.opcount }) := by
  cases bytes with
  | nil => cases hdec
  | cons op rest =>
    have hlen : s.pc + 1 + BitVec.ofNat 16 rest.length = s.pc + BitVec.ofNat 16 (rest.length + 1) := pc_succ ..
    obtain ⟨hop, hopDev⟩ : readByte s s.pc = op ∧ isDevice s s.pc = false := by simpa using hread 0
    have hrest := fetchDec_quiet rest (s := { s with pc := s.pc + 1, opcount := countOpcode s.cfg s.opcount }) hdec
      fun k hk => by
        obtain ⟨hbyte, hdev⟩ := hread ⟨k + 1, Nat.succ_lt_succ hk⟩
        have hpc : s.pc + 1 + BitVec.ofNat 16 k = s.pc + BitVec.ofNat 16 (k + 1) := pc_succ ..
        rw [hpc]
        exact ⟨(readByte_congr rfl rfl rfl rfl rfl rfl _).trans hbyte, (isDevice_congr rfl rfl rfl _).trans hdev⟩
    simp only [fetchInstr, fetch8_quiet hopDev, hop, hrest, hlen, List.length_cons]

/-- Settles O5: what was encoded is what is fetched, as decoding undoes encoding (`decode_encode`). -/
theorem stepRunsDecodedInstruction : Obligations.StepRunsDecodedInstruction := by
  intro s i hwf hs hread
  have hdec : decode (encode i) = .ok (i, []) := by simpa using decode_encode hwf []
  rw [step_of_running hs, fetchInstr_quiet hdec hread]

/-! ### The simple control instructions and the return from interrupt -/

/-- Settles O17: each is its effect by definition, PCX a register write (`aluWord_set`). -/
theorem controlEffects : Obligations.ControlEffects := by
  intro s
  have hpcx : AluWord s (setXw s .X s.pc) .X s.pc := aluWord_set s .X s.pc s.flags
  exact ⟨rfl, rfl, rfl, rfl, rfl, rfl, rfl, rfl, rfl, rfl, rfl, _, rfl, hpcx, rfl⟩

/-- Settles O19: RI and RIM are one operation, whose registers are bytes 12 to 15 of their bank. -/
theorem returnFromInterrupt : Obligations.ReturnFromInterrupt := by
  intro s i hi
  fin_cases hi <;> rfl

end Sys2Proof.Proofs
end

section
/-! The branches (41_branch.md): what the table answers at an index, and where a branch goes by that answer. -/

namespace Sys2Proof.Proofs

open Sys2Proof.Machine

/-! ### The table -/

theorem branchIndex_toNat (fl : FlagNibble) (c sw : Nibble) :
    (branchIndex fl c sw).toNat = fl.toNat * 256 + c.toNat * 16 + sw.toNat := by
  have happend {n : Nat} (x : BitVec n) (y : Nibble) : (x ++ y).toNat = x.toNat * 16 + y.toNat := by
    rw [BitVec.toNat_append, ← Nat.shiftLeft_add_eq_or_of_lt y.isLt, Nat.shiftLeft_eq]
  rw [branchIndex, happend, happend]
  omega

/-- The index names its FLAGS, its condition code and its SW: no two triples share an entry (41_branch.md R171). -/
theorem branchIndex_inj {fl fl' : FlagNibble} {c c' sw sw' : Nibble} :
    branchIndex fl c sw = branchIndex fl' c' sw' ↔ fl = fl' ∧ c = c' ∧ sw = sw' := by
  simp only [← BitVec.toNat_inj, branchIndex_toNat]
  omega

theorem branchTable_of_no_override {cfg : Config} (h : cfg.branchOverrides = []) (fl : FlagNibble) (c sw : Nibble) :
    branchTable cfg fl c sw = if branchCondition fl c sw then .plusOne else .zero := by
  simp [branchTable, h]

theorem branchTable_of_one_override {cfg : Config} {fl' : FlagNibble} {c' sw' : Nibble} {m : Multiplier}
    (h : cfg.branchOverrides = [(branchIndex fl' c' sw', m)]) (fl : FlagNibble) (c sw : Nibble) :
    branchTable cfg fl c sw =
      if fl = fl' ∧ c = c' ∧ sw = sw' then m else if branchCondition fl c sw then .plusOne else .zero := by
  simp only [← branchIndex_inj]
  by_cases hidx : branchIndex fl c sw = branchIndex fl' c' sw'
  · simp [branchTable, h, hidx]
  · simp [branchTable, h, hidx, List.lookup_cons, beq_false_of_ne hidx]

/-! ### The target -/

/-- PC after a branch whose entry is `m`: PC plus, left at, or less the signed displacement. -/
def branchTarget (m : Multiplier) (pc : Word) (d : Byte) : Word :=
  match m with
  | .plusOne => pc + d.signExtend 16
  | .zero => pc
  | .minusOne => pc - d.signExtend 16

/-- The model's sum over the integers, modulo 2^16, is the sum of words (41_branch.md R170). -/
theorem ofInt_eq_branchTarget (m : Multiplier) (pc : Word) (d : Byte) :
    BitVec.ofInt 16 (pc.toNat + m.toInt * d.toInt) = branchTarget m pc d := by
  cases m with
  | minusOne => simp [branchTarget, Multiplier.toInt, BitVec.ofInt_add, BitVec.ofInt_neg, BitVec.signExtend,
      BitVec.sub_eq_add_neg]
  | zero => simp [branchTarget, Multiplier.toInt]
  | plusOne => simp [branchTarget, Multiplier.toInt, BitVec.ofInt_add, BitVec.signExtend]

theorem branch_eq (c : Nibble) (d : Byte) (s : State) :
    branch c d s = { s with pc := branchTarget (branchTable s.cfg s.flags c s.sw) s.pc d } := by
  rw [branch, ofInt_eq_branchTarget]

theorem branch_of_no_override {s : State} (h : s.cfg.branchOverrides = []) (c : Nibble) (d : Byte) :
    branch c d s =
      { s with pc := if branchCondition s.flags c s.sw then s.pc + d.signExtend 16 else s.pc } := by
  rw [branch_eq, branchTable_of_no_override h]
  cases branchCondition s.flags c s.sw <;> rfl

/-! ### The sixteen branches -/

/-- The branch with condition code `c`, in the order of 41_branch.md R172 to R187. -/
def branchInstr (d : Byte) (c : Fin 16) : Instr :=
  [Instr.bl d, .bnl d, .bf d, .bnf d, .bz d, .bnz d, .bm d, .bp d, .bs1 d, .bns1 d, .bs2 d, .bns2 d, .bs3 d,
    .bns3 d, .bs4 d, .bns4 d].get c

theorem decode_branchInstr (d : Byte) (c : Fin 16) :
    decode [BitVec.ofNat 8 (0x10 + c), d] = .ok (branchInstr d c, []) := by
  fin_cases c <;> rfl

theorem exec_branchInstr (d : Byte) (c : Fin 16) (s : State) :
    exec (branchInstr d c) s = .next (branch (BitVec.ofNat 4 c) d s) := by
  fin_cases c <;> rfl

theorem branchCondition_ofNat (fl : FlagNibble) (c : Fin 16) (sw : Nibble) :
    branchCondition fl (BitVec.ofNat 4 c) sw =
      [flagL fl, !flagL fl, flagF fl, !flagF fl, flagV fl, !flagV fl, flagM fl, !flagM fl, sw.getLsbD 0,
        !sw.getLsbD 0, sw.getLsbD 1, !sw.getLsbD 1, sw.getLsbD 2, !sw.getLsbD 2, sw.getLsbD 3,
        !sw.getLsbD 3].get c := by
  fin_cases c <;> rfl

theorem branchIndex_ofNat (fl : FlagNibble) (c : Fin 16) (sw : Nibble) :
    branchIndex fl (BitVec.ofNat 4 c) sw = BitVec.ofNat 12 (fl.toNat * 256 + c * 16 + sw.toNat) := by
  have hc : (BitVec.ofNat 4 c).toNat = c := by simp
  rw [← hc, ← branchIndex_toNat]
  simp

theorem ofNat_nibble_inj {c k : Fin 16} : BitVec.ofNat 4 c = BitVec.ofNat 4 k ↔ c = k := by
  simp [← BitVec.toNat_inj, Fin.ext_iff]

/-! ### The obligations -/

/-- Settles O21: each branch is `branch` at its condition code, which with no override goes by `branchCondition`
alone. -/
theorem branchesByDefaultTable : Obligations.BranchesByDefaultTable := by
  intro s d h
  have hgo (c : Fin 16) := (exec_branchInstr d c s).trans (congrArg Host.Outcome.next (branch_of_no_override h _ d))
  exact ⟨hgo 0, hgo 1, hgo 2, hgo 3, hgo 4, hgo 5, hgo 6, hgo 7, hgo 8, hgo 9, hgo 10, hgo 11, hgo 12, hgo 13,
    hgo 14, hgo 15⟩

/-- Settles O22: the target by `branch_eq`, the one differing entry by the injectivity of the index. -/
theorem branchesByAnyTable : Obligations.BranchesByAnyTable := by
  intro s d c b taken go
  have hexec : exec b s = go (branchTable s.cfg s.flags (BitVec.ofNat 4 c) s.sw) :=
    (exec_branchInstr d c s).trans (congrArg Host.Outcome.next (branch_eq ..))
  refine ⟨decode_branchInstr d c, hexec, fun fl sw k m hone => ?_⟩
  rw [← branchIndex_ofNat] at hone
  rw [hexec, branchTable_of_one_override hone, branchCondition_ofNat]
  simp only [ofNat_nibble_inj, taken]

end Sys2Proof.Proofs
end

section
/-! The unary ALU (42_unary_alu.md): each law in closed form, and the instructions that write its answer to a register
and FLAGS. A shift is a division or a product, a rotate a turn of the ring of LINK and operand. -/

namespace Sys2Proof.Proofs

open Sys2Proof.Machine Sys2Proof.Laws

/-! ### A register and FLAGS written by a law -/

theorem aluByte_of_law {o : Host.Outcome State Fault Refusal} {s : State} {r : Nibble} {p : Byte × FlagNibble}
    {v : Byte} {fl : FlagNibble} (hlaw : p = (v, fl)) (ho : o = .next { setX s r p.1 with flags := p.2 }) :
    ∃ t, o = .next t ∧ AluByte s t r v ∧ t.flags = fl := by
  subst hlaw
  exact ⟨_, ho, aluByte_set s r v fl, rfl⟩

theorem aluWord_of_law {o : Host.Outcome State Fault Refusal} {s : State} {r : WReg} {p : Word × FlagNibble}
    {v : Word} {fl : FlagNibble} (hlaw : p = (v, fl)) (ho : o = .next { setXw s r p.1 with flags := p.2 }) :
    ∃ t, o = .next t ∧ AluWord s t r v ∧ t.flags = fl := by
  subst hlaw
  exact ⟨_, ho, aluWord_set s r v fl, rfl⟩

theorem flagsAre_of_packFlags {t : State} {v m f l : Bool} (h : t.flags = packFlags v m f l) :
    FlagsAre t v m f l := by
  simp [FlagsAre, h]

theorem aluByte_flagsAre_of_law {o : Host.Outcome State Fault Refusal} {s : State} {r : Nibble}
    {p : Byte × FlagNibble} {v : Byte} {z m f l : Bool} (hlaw : p = (v, packFlags z m f l))
    (ho : o = .next { setX s r p.1 with flags := p.2 }) :
    ∃ t, o = .next t ∧ AluByte s t r v ∧ FlagsAre t z m f l :=
  (aluByte_of_law hlaw ho).imp fun _ ⟨hnext, halu, hfl⟩ => ⟨hnext, halu, flagsAre_of_packFlags hfl⟩

theorem aluWord_flagsAre_of_law {o : Host.Outcome State Fault Refusal} {s : State} {r : WReg}
    {p : Word × FlagNibble} {v : Word} {z m f l : Bool} (hlaw : p = (v, packFlags z m f l))
    (ho : o = .next { setXw s r p.1 with flags := p.2 }) :
    ∃ t, o = .next t ∧ AluWord s t r v ∧ FlagsAre t z m f l :=
  (aluWord_of_law hlaw ho).imp fun _ ⟨hnext, halu, hfl⟩ => ⟨hnext, halu, flagsAre_of_packFlags hfl⟩

/-! ### Increment, decrement, invert -/

theorem incLaw_eq {n : Nat} (v : BitVec n) (c : Nat) (fl : FlagNibble) :
    incLaw v c fl = (BitVec.ofNat n (v.toNat + c), setMV (BitVec.ofNat n (v.toNat + c)) fl) := by
  simp [incLaw, BitVec.ofNat_add]

theorem decLaw_eq {n : Nat} (v : BitVec n) (c : Nat) (fl : FlagNibble) :
    decLaw v c fl = (BitVec.ofInt n (v.toNat - c), setMV (BitVec.ofInt n (v.toNat - c)) fl) := by
  simp [decLaw, Int.sub_eq_add_neg, BitVec.ofInt_add, BitVec.ofInt_neg, BitVec.sub_eq_add_neg]

theorem not_eq_ofNat {n : Nat} (v : BitVec n) : ~~~v = BitVec.ofNat n (2 ^ n - 1 - v.toNat) :=
  BitVec.eq_of_toNat_eq (by rw [BitVec.toNat_not, BitVec.toNat_ofNat, Nat.mod_eq_of_lt (by have := v.isLt; omega)])

theorem invLaw_eq {n : Nat} (v : BitVec n) (c : Nat) (fl : FlagNibble) :
    invLaw v c fl = (BitVec.ofNat n (2 ^ n - 1 - v.toNat), setMV (BitVec.ofNat n (2 ^ n - 1 - v.toNat)) fl) := by
  rw [invLaw, not_eq_ofNat]

/-- Settles O23: the laws write M and V by the result and keep F and L (`setMV`); clear is its law as it stands. -/
theorem incrementDecrementClearInvert : Obligations.IncrementDecrementClearInvert := by
  intro s r n w
  simp only [List.forall_mem_cons, List.not_mem_nil, false_imp_iff, implies_true, and_true]
  refine ⟨⟨?inrb, ?dcrb, ?clrb, ?ivrb⟩, ?inr, ?dcr, ?clr, ?ivr⟩
  case inrb => exact aluByte_flagsAre_of_law (incLaw_eq ..) rfl
  case dcrb => exact aluByte_flagsAre_of_law (decLaw_eq ..) rfl
  case clrb => exact aluByte_flagsAre_of_law rfl rfl
  case ivrb => exact aluByte_flagsAre_of_law (invLaw_eq ..) rfl
  case inr => exact aluWord_flagsAre_of_law (incLaw_eq ..) rfl
  case dcr => exact aluWord_flagsAre_of_law (decLaw_eq ..) rfl
  case clr => exact aluWord_flagsAre_of_law rfl rfl
  case ivr => exact aluWord_flagsAre_of_law (invLaw_eq ..) rfl

/-! ### Shifts -/

theorem shrStep_eq {n : Nat} (hn : 0 < n) (p : BitVec n × Bool) :
    shrStep p = (p.1.sshiftRight 1, p.1.getLsbD 0) := by
  refine Prod.ext ?_ rfl
  ext i hi
  obtain htop | rfl : i < n - 1 ∨ i = n - 1 := by omega
  · have hin : 1 + i < n := by omega
    simp [shrStep, BitVec.getElem_sshiftRight, BitVec.getElem_twoPow, hin, htop.ne]
  · have hout : ¬ 1 + (n - 1) < n := by omega
    rw [BitVec.getElem_sshiftRight, dif_neg hout]
    simp [shrStep, BitVec.getElem_twoPow, BitVec.msb_eq_getLsbD_last, hn,
      BitVec.getLsbD_of_ge p.1 _ (not_lt.mp hout)]

theorem sshiftRight_eq_ofInt {n : Nat} (v : BitVec n) (k : Nat) :
    v.sshiftRight k = BitVec.ofInt n (v.toInt / 2 ^ k) := by
  rw [BitVec.sshiftRight, Int.shiftRight_eq_div_pow, Nat.cast_pow, Nat.cast_ofNat]

theorem getLsbD_zero_eq_toInt_odd {n : Nat} (hn : 0 < n) (v : BitVec n) :
    v.getLsbD 0 = decide (v.toInt % 2 = 1) := by
  obtain ⟨m, rfl⟩ : ∃ m, n = m + 1 := ⟨n - 1, by omega⟩
  rw [← BitVec.testBit_toNat, Nat.testBit_zero, BitVec.toInt_eq_toNat_cond, decide_eq_decide, Nat.pow_succ]
  split <;> omega

/-- `c + 1` steps of the right shift divide by `2^(c+1)`; LINK is the bit that the last of them shifts out. -/
theorem repeatN_shrStep {n : Nat} (hn : 0 < n) (c : Nat) (p : BitVec n × Bool) :
    repeatN shrStep (c + 1) p =
      (BitVec.ofInt n (p.1.toInt / 2 ^ (c + 1)), decide (p.1.toInt / 2 ^ c % 2 = 1)) := by
  have hsteps : repeatN shrStep (c + 1) p = (p.1.sshiftRight (c + 1), (p.1.sshiftRight c).getLsbD 0) := by
    induction c with
    | zero => rw [repeatN_succ, repeatN_zero, shrStep_eq hn, BitVec.sshiftRight_zero]
    | succ c ih => rw [repeatN_succ', ih, shrStep_eq hn, ← BitVec.sshiftRight_add]
  rw [hsteps, sshiftRight_eq_ofInt, getLsbD_zero_eq_toInt_odd hn, BitVec.toInt_sshiftRight,
    Int.shiftRight_eq_div_pow, Nat.cast_pow, Nat.cast_ofNat]

theorem shiftLeft_eq_ofNat {n : Nat} (v : BitVec n) (k : Nat) : v <<< k = BitVec.ofNat n (v.toNat * 2 ^ k) :=
  BitVec.eq_of_toNat_eq (by rw [BitVec.toNat_shiftLeft, Nat.shiftLeft_eq, BitVec.toNat_ofNat])

theorem msb_ofNat {n : Nat} (hn : 0 < n) (x : Nat) : (BitVec.ofNat n x).msb = x.testBit (n - 1) := by
  rw [BitVec.msb_eq_getLsbD_last, BitVec.getLsbD_ofNat]
  simp [hn]

/-- `c + 1` steps of the left shift multiply by `2^(c+1)`; LINK is the bit that the last of them shifts out. -/
theorem repeatN_shlStep {n : Nat} (hn : 0 < n) (c : Nat) (p : BitVec n × Bool) :
    repeatN shlStep (c + 1) p =
      (BitVec.ofNat n (p.1.toNat * 2 ^ (c + 1)), (p.1.toNat * 2 ^ c).testBit (n - 1)) := by
  have hsteps : repeatN shlStep (c + 1) p = (p.1 <<< (c + 1), (p.1 <<< c).msb) := by
    induction c with
    | zero => rw [repeatN_succ, repeatN_zero, shlStep, BitVec.shiftLeft_zero]
    | succ c ih => rw [repeatN_succ', ih, shlStep, ← BitVec.shiftLeft_add]
  rw [hsteps, shiftLeft_eq_ofNat, shiftLeft_eq_ofNat, msb_ofNat hn]

theorem shrLaw_eq {n : Nat} (hn : 0 < n) (v : BitVec n) (c : Nat) (fl : FlagNibble) :
    let r := BitVec.ofInt n (v.toInt / 2 ^ (c + 1))
    shrLaw v (c + 1) fl = (r, packFlags (r == 0) r.msb (flagF fl) (decide (v.toInt / 2 ^ c % 2 = 1))) := by
  simp [shrLaw, repeatN_shrStep hn, setL]

theorem shlLaw_eq {n : Nat} (hn : 0 < n) (v : BitVec n) (c : Nat) (fl : FlagNibble) :
    let r := BitVec.ofNat n (v.toNat * 2 ^ (c + 1))
    shlLaw v (c + 1) fl =
      (r, packFlags (r == 0) r.msb (v.msb != r.msb) ((v.toNat * 2 ^ c).testBit (n - 1))) := by
  simp [shlLaw, repeatN_shlStep hn, setF]

/-- Settles O24: the repeated steps in closed form (`repeatN_shrStep`, `repeatN_shlStep`), at 8 and 16 bits. -/
theorem shifts : Obligations.Shifts := by
  intro s r n w
  refine ⟨?srrb, ?srr, ?slrb, ?slr⟩
  case srrb => exact aluByte_flagsAre_of_law (shrLaw_eq (by decide) ..) rfl
  case srr => exact aluWord_flagsAre_of_law (shrLaw_eq (by decide) ..) rfl
  case slrb => exact aluByte_flagsAre_of_law (shlLaw_eq (by decide) ..) rfl
  case slr => exact aluWord_flagsAre_of_law (shlLaw_eq (by decide) ..) rfl

/-! ### The ring of LINK and the operand -/

/-- The ring a rotate turns: LINK above the operand (42_unary_alu.md R196, R197). -/
def linkRing {n : Nat} (p : BitVec n × Bool) : BitVec (1 + n) := BitVec.ofBool p.2 ++ p.1

theorem getElem_linkRing {n : Nat} (p : BitVec n × Bool) {i : Nat} (hi : i < 1 + n) :
    (linkRing p)[i] = if h : i < n then p.1[i] else p.2 := by
  simp [linkRing, BitVec.getElem_append]

theorem extractLsb'_linkRing {n : Nat} (p : BitVec n × Bool) : (linkRing p).extractLsb' 0 n = p.1 := by
  simp [linkRing, BitVec.extractLsb'_append_eq_right]

theorem getLsbD_linkRing_last {n : Nat} (p : BitVec n × Bool) : (linkRing p).getLsbD n = p.2 := by
  rw [linkRing, BitVec.getLsbD_append]
  simp

theorem getLsbD_linkRing_pred {n : Nat} (hn : 0 < n) (p : BitVec n × Bool) :
    (linkRing p).getLsbD (n - 1) = p.1.msb := by
  simp [linkRing, BitVec.getLsbD_append, hn, BitVec.msb_eq_getLsbD_last]

/-! ### Turns compose and undo each other -/

theorem getElem_rotateRight_mod {n : Nat} (x : BitVec n) (a : Nat) {i : Nat} (hi : i < n) :
    (x.rotateRight a)[i] = x[(i + a) % n]'(Nat.mod_lt _ (by omega)) := by
  have hlt := Nat.mod_lt a (by omega : 0 < n)
  simp only [BitVec.getElem_rotateRight, ← Nat.add_mod_mod i a n]
  split
  · simp only [Nat.mod_eq_of_lt (by omega : i + a % n < n), Nat.add_comm]
  · simp only [Nat.mod_eq_sub_mod (by omega : n ≤ i + a % n), Nat.mod_eq_of_lt (by omega : i + a % n - n < n)]
    congr 1
    omega

theorem rotateRight_add {n : Nat} (x : BitVec n) (a b : Nat) :
    x.rotateRight (a + b) = (x.rotateRight a).rotateRight b := by
  ext i hi
  simp only [getElem_rotateRight_mod, Nat.mod_add_mod, Nat.add_assoc, Nat.add_comm a b]

theorem rotateLeft_rotateRight {n : Nat} (x : BitVec n) (a : Nat) : (x.rotateRight a).rotateLeft a = x := by
  ext i hi
  have hlt := Nat.mod_lt a (by omega : 0 < n)
  simp only [BitVec.getElem_rotateLeft, BitVec.getElem_rotateRight]
  by_cases hwrap : i < a % n
  · have hback : ¬ n - a % n + i < n - a % n := by omega
    simp only [hwrap, hback, dite_true, dite_false, Nat.add_sub_cancel_left]
  · have hback : i - a % n < n - a % n := by omega
    simp only [hwrap, hback, dite_true, dite_false, Nat.add_sub_cancel' (not_lt.mp hwrap)]

/-! ### Rotates -/

theorem getElem_rorStep {n : Nat} (p : BitVec n × Bool) {i : Nat} (hi : i < n) :
    (rorStep p).1[i] = if h : i + 1 < n then p.1[i + 1] else p.2 := by
  split
  · have hlt : i < n - 1 := by omega
    simp [rorStep, Nat.add_comm 1 i, *]
  · obtain rfl : i = n - 1 := by omega
    simp [rorStep, BitVec.getLsbD_of_ge p.1 (1 + (n - 1)) (by omega)]

theorem getElem_rolStep {n : Nat} (p : BitVec n × Bool) {i : Nat} (hi : i < n) :
    (rolStep p).1[i] = if i = 0 then p.2 else p.1[i - 1] := by
  cases i <;> simp [rolStep]

theorem linkRing_rorStep {n : Nat} (hn : 0 < n) (p : BitVec n × Bool) :
    linkRing (rorStep p) = (linkRing p).rotateRight 1 := by
  ext i hi
  obtain hlt | rfl : i < n ∨ i = n := by omega
  · have hmod : (i + 1) % (1 + n) = i + 1 := Nat.mod_eq_of_lt (by omega)
    simp only [getElem_rotateRight_mod, getElem_linkRing, getElem_rorStep, hlt, hmod, dite_true]
  · have hmod : (i + 1) % (1 + i) = 0 := by rw [Nat.add_comm, Nat.mod_self]
    simp only [getElem_rotateRight_mod, getElem_linkRing, hmod, hn, lt_irrefl, dite_false, dite_true]
    exact BitVec.getLsbD_eq_getElem hn

theorem rorStep_rolStep {n : Nat} (hn : 0 < n) (p : BitVec n × Bool) : rorStep (rolStep p) = p := by
  refine Prod.ext ?_ (by simp [rorStep, rolStep, hn])
  ext i hi
  obtain hlt | rfl : i + 1 < n ∨ i = n - 1 := by omega
  · simp [getElem_rorStep, getElem_rolStep, hlt]
  · simp [getElem_rorStep, rolStep, BitVec.msb_eq_getLsbD_last, hn, Nat.sub_add_cancel hn]

theorem linkRing_repeatN_rorStep {n : Nat} (hn : 0 < n) (c : Nat) (p : BitVec n × Bool) :
    linkRing (repeatN rorStep c p) = (linkRing p).rotateRight c := by
  induction c with
  | zero => simp [repeatN_zero, BitVec.rotateRight_def]
  | succ c ih => rw [repeatN_succ', linkRing_rorStep hn, ih, ← rotateRight_add]

theorem repeatN_rorStep_rolStep {n : Nat} (hn : 0 < n) (c : Nat) (p : BitVec n × Bool) :
    repeatN rorStep c (repeatN rolStep c p) = p := by
  induction c with
  | zero => rfl
  | succ c ih => rw [repeatN_succ, repeatN_succ', rorStep_rolStep hn, ih]

/-- A rotate right undoes the rotate left, so the rotate left turns the ring the other way. -/
theorem linkRing_repeatN_rolStep {n : Nat} (hn : 0 < n) (c : Nat) (p : BitVec n × Bool) :
    linkRing (repeatN rolStep c p) = (linkRing p).rotateLeft c :=
  calc linkRing (repeatN rolStep c p)
      = ((linkRing (repeatN rolStep c p)).rotateRight c).rotateLeft c := (rotateLeft_rotateRight _ c).symm
    _ = (linkRing p).rotateLeft c := by rw [← linkRing_repeatN_rorStep hn, repeatN_rorStep_rolStep hn]

theorem rorLaw_eq {n : Nat} (hn : 0 < n) (v : BitVec n) (c : Nat) (fl : FlagNibble) :
    let ring := (linkRing (v, flagL fl)).rotateRight c
    let r := ring.extractLsb' 0 n
    rorLaw v c fl = (r, packFlags (r == 0) (ring.getLsbD (n - 1)) (flagF fl) (ring.getLsbD n)) := by
  simp only [← linkRing_repeatN_rorStep hn, extractLsb'_linkRing, getLsbD_linkRing_last, getLsbD_linkRing_pred hn,
    rorLaw, setL, flagV_setMV, flagM_setMV, flagF_setMV]

theorem rolLaw_eq {n : Nat} (hn : 0 < n) (v : BitVec n) (c : Nat) (fl : FlagNibble) :
    let ring := (linkRing (v, flagL fl)).rotateLeft c
    let r := ring.extractLsb' 0 n
    rolLaw v c fl = (r, packFlags (r == 0) (ring.getLsbD (n - 1)) (flagF fl) (ring.getLsbD n)) := by
  simp only [← linkRing_repeatN_rolStep hn, extractLsb'_linkRing, getLsbD_linkRing_last, getLsbD_linkRing_pred hn,
    rolLaw, setL, flagV_setMV, flagM_setMV, flagF_setMV]

/-- Settles O25: the repeated steps turn the ring (`linkRing_repeatN_rorStep`, `linkRing_repeatN_rolStep`), at 8 and
16 bits. -/
theorem rotateThroughLink : Obligations.RotateThroughLink := by
  intro s r n w ring8 ring16
  simp only [List.forall_mem_cons, List.not_mem_nil, false_imp_iff, implies_true, and_true]
  refine ⟨⟨?rrrb, ?rlrb⟩, ?rrr, ?rlr⟩
  case rrrb => exact aluByte_flagsAre_of_law (rorLaw_eq (by decide) ..) rfl
  case rlrb => exact aluByte_flagsAre_of_law (rolLaw_eq (by decide) ..) rfl
  case rrr => exact aluWord_flagsAre_of_law (rorLaw_eq (by decide) ..) rfl
  case rlr => exact aluWord_flagsAre_of_law (rolLaw_eq (by decide) ..) rfl

/-! ### The tables and the merge of their flags -/

theorem mergeFlags_all (table fl : FlagNibble) : mergeFlags 0b1111 table fl = table := by
  revert table fl; decide

theorem mergeFlags_VML (v m f l : Bool) (fl : FlagNibble) :
    mergeFlags 0b1101 (packFlags v m f l) fl = packFlags v m (flagF fl) l := by
  revert v m f l fl; decide

theorem mergeFlags_VM (v m f l : Bool) (fl : FlagNibble) :
    mergeFlags 0b1100 (packFlags v m f l) fl = packFlags v m (flagF fl) (flagL fl) := by
  revert v m f l fl; decide

theorem invLaw_eq_table {n : Nat} (v : BitVec n) (c : Nat) (fl : FlagNibble) :
    invLaw v c fl = (~~~v, mergeFlags 0b1100 (tableMV (~~~v)) fl) := by
  rw [tableMV, mergeFlags_VM]
  rfl

theorem shrLaw_eq_table (v : Byte) (c : Nat) (fl : FlagNibble) :
    shrLaw v (c + 1) fl = ((tableSRB v (c + 1)).1, mergeFlags 0b1101 (tableSRB v (c + 1)).2 fl) := by
  rw [shrLaw_eq (by decide), tableSRB, mergeFlags_VML]
  rfl

theorem shlLaw_eq_table (v : Byte) (c : Nat) (fl : FlagNibble) :
    shlLaw v (c + 1) fl = ((tableSLB v (c + 1)).1, mergeFlags 0b1111 (tableSLB v (c + 1)).2 fl) := by
  rw [shlLaw_eq (by decide), tableSLB, mergeFlags_all, Nat.testBit_eq_decide_div_mod_eq]
  rfl

theorem msb_extractLsb'_zero {n : Nat} (hn : 0 < n) (x : BitVec (1 + n)) :
    (x.extractLsb' 0 n).msb = x.getLsbD (n - 1) := by
  rw [BitVec.msb_eq_getLsbD_last, BitVec.getLsbD_extractLsb']
  simp [hn]

theorem rorLaw_eq_table (v : Byte) (c : Nat) (fl : FlagNibble) :
    rorLaw v c fl = ((tableRRB v c (flagL fl)).1, mergeFlags 0b1101 (tableRRB v c (flagL fl)).2 fl) := by
  rw [rorLaw_eq (by decide), tableRRB, mergeFlags_VML, msb_extractLsb'_zero (by decide), BitVec.msb_eq_getLsbD_last]
  rfl

theorem rolLaw_eq_table (v : Byte) (c : Nat) (fl : FlagNibble) :
    rolLaw v c fl = ((tableRLB v c (flagL fl)).1, mergeFlags 0b1101 (tableRLB v c (flagL fl)).2 fl) := by
  rw [rolLaw_eq (by decide), tableRLB, mergeFlags_VML, msb_extractLsb'_zero (by decide), BitVec.msb_eq_getLsbD_last]
  rfl

/-- Settles O27: each law is its table's entry, the flags merged by the mask of those it writes. -/
theorem tablesAgreeWithLaws : Obligations.TablesAgreeWithLaws := by
  intro s r n w v c l
  simp only [List.forall_mem_cons, List.not_mem_nil, false_imp_iff, implies_true, and_true]
  refine ⟨⟨?srrb, ?slrb, ?rrrb, ?rlrb, ?ivrb⟩, ?ivr⟩
  case srrb => exact aluByte_of_law (shrLaw_eq_table ..) rfl
  case slrb => exact aluByte_of_law (shlLaw_eq_table ..) rfl
  case rrrb => exact aluByte_of_law (rorLaw_eq_table ..) rfl
  case rlrb => exact aluByte_of_law (rolLaw_eq_table ..) rfl
  case ivrb => exact aluByte_of_law (invLaw_eq_table ..) rfl
  case ivr => exact aluWord_of_law (invLaw_eq_table ..) rfl

/-! ### Implicit forms -/

/-- Settles O26: an implicit form and its explicit form are one shared operation (`unaryByte`, `unaryWord`,
`binaryByte`, `binaryWord`) of one law on the same registers. -/
theorem implicitForms : Obligations.ImplicitForms := by
  intro s p hp
  fin_cases hp <;> exact ⟨_, rfl, rfl⟩

end Sys2Proof.Proofs
end

section
/-! The page-table, DMA-register and block instructions (43_mmu_dma_block.md). The loops of STMMU and BCPY are two cases
of one notion, byte writes in ascending order, whose frame and contents are proved once. -/

namespace Sys2Proof.Proofs

open Sys2Proof.Machine Sys2Proof.Laws

/-! ### The DMA registers -/

/-- Settles O33: each is its effect by definition, STDMA and STDMC a register write (`aluWord_set`). -/
theorem dmaRegisters : Obligations.DmaRegisters := by
  intro s r m
  have hstore (v : Word) : AluWord s (setXw s r v) r v := aluWord_set s r v s.flags
  exact ⟨rfl, rfl, ⟨_, rfl, hstore s.dma.addr, rfl⟩, ⟨_, rfl, hstore s.dma.count, rfl⟩, rfl, rfl, rfl⟩

/-! ### What the loops leave unchanged -/

/-- `t` is `s` but for the devices' history. -/
def SameButHistory (s t : State) : Prop := ∃ log, t = { s with devLog := log }

/-- `t` is `s` but for the page tables and the devices' history. -/
def SameButTables (s t : State) : Prop := ∃ pt log, t = { s with pt := pt, devLog := log }

/-- `t` is `s` but for the register file, the region contents and the devices' history. -/
def SameButMemory (s t : State) : Prop := ∃ sram mem log, t = { s with sram := sram, mem := mem, devLog := log }

theorem SameButHistory.trans {s t u : State} : SameButHistory s t → SameButHistory t u → SameButHistory s u := by
  rintro ⟨_, rfl⟩ ⟨_, rfl⟩
  exact ⟨_, rfl⟩

theorem SameButTables.trans {s t u : State} : SameButTables s t → SameButTables t u → SameButTables s u := by
  rintro ⟨_, _, rfl⟩ ⟨_, _, rfl⟩
  exact ⟨_, _, rfl⟩

theorem SameButMemory.trans {s t u : State} : SameButMemory s t → SameButMemory t u → SameButMemory s u := by
  rintro ⟨_, _, _, rfl⟩ ⟨_, _, _, rfl⟩
  exact ⟨_, _, _, rfl⟩

theorem SameButHistory.sameButTables {s t : State} : SameButHistory s t → SameButTables s t := by
  rintro ⟨_, rfl⟩
  exact ⟨_, _, rfl⟩

theorem SameButHistory.sameButMemory {s t : State} : SameButHistory s t → SameButMemory s t := by
  rintro ⟨_, rfl⟩
  exact ⟨_, _, _, rfl⟩

theorem sameButHistory_readDone (s : State) (a : Word) : SameButHistory s (readDone s a) :=
  ⟨(readDone s a).devLog, by simpa [SameButRegisters] using sameButRegisters_readDone s a⟩

theorem sameButMemory_memWrite8 (a : Word) (v : Byte) (s : State) : SameButMemory s (memWrite8 a v s) := by
  obtain ⟨_, _, h⟩ | ⟨_, _, _, h⟩ | ⟨_, _, _, h⟩ | ⟨_, _, h⟩ := memWrite8_cases a v s <;>
    exact ⟨_, _, _, h⟩

theorem sameButTables_loadTable (b : BitVec 3) (k : Nat) (e : BitVec 5) (a : Word) (s : State) :
    SameButTables s (loadTable b k e a s) := by
  induction k generalizing e a s with
  | zero => exact ⟨_, _, rfl⟩
  | succ k ih =>
    have hentry : SameButTables (readDone s a) (setPtEntry (readDone s a) b e (readByte s a)) := ⟨_, _, rfl⟩
    exact (sameButHistory_readDone s a).sameButTables.trans (hentry.trans (ih ..))

theorem sameButHistory_blockCompare (k : Nat) (src dst : Word) (eq : Bool) (s : State) :
    SameButHistory s (blockCompare k src dst eq s).2 := by
  induction k generalizing src dst eq s with
  | zero => exact ⟨_, rfl⟩
  | succ k ih => exact (sameButHistory_readDone s src).trans ((sameButHistory_readDone _ dst).trans (ih ..))

theorem SameButHistory.readByte_eq {s t : State} {a : Word} : SameButHistory s t → isDevice s a = false →
    readByte t a = readByte s a := by
  rintro ⟨log, rfl⟩ hd
  exact readByte_quiet (s := s) (t := { s with devLog := log }) rfl rfl rfl rfl rfl hd

theorem SameButMemory.resolve_eq {s t : State} : SameButMemory s t → ∀ a, resolve t a = resolve s a := by
  rintro ⟨_, _, _, rfl⟩ a
  exact resolve_congr rfl rfl a

theorem SameButMemory.isDevice_eq {s t : State} : SameButMemory s t → ∀ a, isDevice t a = isDevice s a := by
  rintro ⟨_, _, _, rfl⟩ a
  exact isDevice_congr rfl rfl rfl a

theorem SameButMemory.isWritable_eq {s t : State} : SameButMemory s t → ∀ a, isWritable t a = isWritable s a := by
  rintro ⟨_, _, _, rfl⟩ a
  exact isWritable_congr rfl rfl rfl a

/-! ### Places in ascending order -/

/-- The `k`-th place after the next is the `k + 1`-th, for entries and addresses alike. -/
theorem add_one_add_ofNat {n : Nat} (a : BitVec n) (k : Nat) :
    a + 1 + BitVec.ofNat n k = a + BitVec.ofNat n (k + 1) := by
  rw [Nat.add_comm, BitVec.ofNat_add, BitVec.add_assoc]
  rfl

/-- The places of a block shorter than a page are different. -/
theorem resolve_block_ne (s : State) (a : Word) {i j : Nat} (hij : i < j) (hj : j < 2048) :
    resolve s (a + BitVec.ofNat 16 i) ≠ resolve s (a + BitVec.ofNat 16 j) :=
  (resolve_ne_of_near (by bv_omega) (by bv_omega)).symm

/-! ### LDMMU -/

/-- A load of one more entry is the load so far, then one entry read and set in the state it left
(43_mmu_dma_block.md R241). -/
theorem loadTable_succ (b : BitVec 3) (k : Nat) (e : BitVec 5) (a : Word) (s : State) :
    loadTable b (k + 1) e a s =
      let r := memRead8 (a + BitVec.ofNat 16 k) (loadTable b k e a s)
      setPtEntry r.2 b (e + BitVec.ofNat 5 k) r.1 := by
  induction k generalizing e a s with
  | zero => simp [loadTable]
  | succ k ih => rw [loadTable, ih, add_one_add_ofNat, add_one_add_ofNat, ← loadTable]

/-- Of the entries loaded, each is what its byte reads as in the state that the entries before it left. -/
theorem ptEntry_loadTable (b : BitVec 3) (a : Word) (s : State) {f : BitVec 5} {k : Nat} (hf : f.toNat < k)
    (hk : k ≤ 32) :
    ptEntry (loadTable b k 0 a s) b f = readByte (loadTable b f.toNat 0 a s) (a + BitVec.ofNat 16 f.toNat) := by
  induction k with
  | zero => omega
  | succ k ih =>
    rw [loadTable_succ]
    by_cases hfk : f.toNat = k
    · subst hfk
      simp [memRead8]
    · have hne : f ≠ 0 + BitVec.ofNat 5 k := fun h => hfk (by simp [h]; omega)
      rw [ptEntry_setPtEntry_ne _ _ (.inr hne), ptEntry_of_pt (memRead8_pt ..), ih (by omega) (by omega)]

section
variable {b : BitVec 3} {s : State}

/-- A load of a bank not in use leaves the translation alone (20_memory.md R74). -/
theorem resolve_loadTable (hb : b ≠ s.mb) (k : Nat) (e : BitVec 5) (a x : Word) :
    resolve (loadTable b k e a s) x = resolve s x := by
  simp only [resolve, Machine.translate, loadTable_mb, ptEntry_loadTable_ne hb.symm]

theorem isDevice_loadTable (hb : b ≠ s.mb) (k : Nat) (e : BitVec 5) (a x : Word) :
    isDevice (loadTable b k e a s) x = isDevice s x := by
  simp only [isDevice, resolve_loadTable hb, loadTable_regions]

theorem devLog_loadTable (hb : b ≠ s.mb) {k : Nat} (e : BitVec 5) {a : Word}
    (hd : ∀ i < k, isDevice s (a + BitVec.ofNat 16 i) = false) : (loadTable b k e a s).devLog = s.devLog := by
  induction k with
  | zero => rfl
  | succ k ih =>
    have hlast : isDevice (loadTable b k e a s) (a + BitVec.ofNat 16 k) = false := by
      rw [isDevice_loadTable hb]
      exact hd k (by omega)
    rw [loadTable_succ, memRead8_quiet hlast, setPtEntry_devLog]
    exact ih fun i hi => hd i (by omega)

/-- A load of a bank not in use, from no device, leaves every byte of memory as it was. -/
theorem readByte_loadTable (hb : b ≠ s.mb) {k : Nat} (e : BitVec 5) {a : Word}
    (hd : ∀ i < k, isDevice s (a + BitVec.ofNat 16 i) = false) (x : Word) :
    readByte (loadTable b k e a s) x = readByte s x := by
  simp only [readByte, resolve_loadTable hb, sramByte, physByte, loadTable_sram, loadTable_regions, loadTable_mem,
    devLog_loadTable hb e hd]

end

/-- Settles O31: the frame by `sameButTables_loadTable` and `ptEntry_loadTable_ne`, the entries by `ptEntry_loadTable`;
with the bank not in use, the sources read the same in every state of the loop. -/
theorem loadPageTable : Obligations.LoadPageTable := by
  intro s b addr
  obtain ⟨pt, log, hframe⟩ := sameButTables_loadTable b 32 0 addr s
  have hentry (e : BitVec 5) : ptEntry (loadTable b 32 0 addr s) b e =
      readByte (loadTable b e.toNat 0 addr s) (addr + e.zeroExtend 16) := by
    simpa using ptEntry_loadTable b addr s e.isLt le_rfl
  refine ⟨loadTable b 32 0 addr s, rfl, by rw [hframe], fun c e hc => ptEntry_loadTable_ne hc e 32 0 addr s, hentry,
    fun hb hdev => ?_⟩
  have hd : ∀ i < 32, isDevice s (addr + BitVec.ofNat 16 i) = false := fun i hi => by
    simpa [hi] using hdev (BitVec.ofNat 5 i)
  refine ⟨devLog_loadTable hb 0 hd, fun e => ?_⟩
  rw [hentry, readByte_loadTable hb 0 fun i hi => hd i (by omega)]

/-! ### Byte writes in ascending order -/

/-- `u` is a run of byte writes from `s` to the addresses from `dst` on, in ascending order: write `i` puts `v i`.
Between two writes only the devices' history may change, as by reads. -/
structure AscendingWrites (s : State) (dst : Word) (v : Nat → Byte) (u : Nat → State) : Prop where
  start : u 0 = s
  write : ∀ i, ∃ w, SameButHistory (u i) w ∧ u (i + 1) = memWrite8 (dst + BitVec.ofNat 16 i) (v i) w

namespace AscendingWrites

variable {s : State} {dst : Word} {v : Nat → Byte} {u : Nat → State}

theorem sameButMemory (h : AscendingWrites s dst v u) (k : Nat) : SameButMemory s (u k) := by
  induction k with
  | zero => exact ⟨_, _, _, h.start⟩
  | succ k ih =>
    obtain ⟨w, hw, hu⟩ := h.write k
    rw [hu]
    exact ih.trans (hw.sameButMemory.trans (sameButMemory_memWrite8 ..))

theorem wf (h : AscendingWrites s dst v u) (hwf : Memory.wf s.mem = true) (k : Nat) :
    Memory.wf (u k).mem = true := by
  induction k with
  | zero => rwa [h.start]
  | succ k ih =>
    obtain ⟨w, ⟨_, rfl⟩, hu⟩ := h.write k
    rw [hu]
    exact wf_memWrite8 _ _ ih

/-- One write leaves every other place alone, a device's apart. -/
theorem readByte_succ_ne (h : AscendingWrites s dst v u) {a : Word} {k : Nat} (hd : isDevice s a = false)
    (hne : resolve s a ≠ resolve s (dst + BitVec.ofNat 16 k)) : readByte (u (k + 1)) a = readByte (u k) a := by
  obtain ⟨w, hw, hu⟩ := h.write k
  have hsame : SameButMemory s w := (h.sameButMemory k).trans hw.sameButMemory
  have hdev : isDevice (u k) a = false := by rwa [(h.sameButMemory k).isDevice_eq]
  rw [hu, readByte_memWrite8_ne _ (by simpa only [hsame.resolve_eq] using hne) (by rwa [hsame.isDevice_eq]),
    hw.readByte_eq hdev]

/-- The writes leave every place outside their block alone, a device's apart. -/
theorem readByte_ne (h : AscendingWrites s dst v u) {a : Word} {k : Nat} (hd : isDevice s a = false)
    (hne : ∀ i < k, resolve s a ≠ resolve s (dst + BitVec.ofNat 16 i)) : readByte (u k) a = readByte s a := by
  induction k with
  | zero => rw [h.start]
  | succ k ih =>
    exact (h.readByte_succ_ne hd (hne k (by omega))).trans (ih fun i hi => hne i (by omega))

/-- A writable byte of a block shorter than a page ends as the byte written to it: the later writes go to other
places. -/
theorem readByte_written (h : AscendingWrites s dst v u) (hwf : Memory.wf s.mem = true) {i k : Nat} (hi : i < k)
    (hk : k ≤ 2048) (hw : isWritable s (dst + BitVec.ofNat 16 i) = true) :
    readByte (u k) (dst + BitVec.ofNat 16 i) = v i := by
  induction k, hi using Nat.le_induction with
  | base =>
    obtain ⟨w, hsame, hu⟩ := h.write i
    have hww : isWritable w (dst + BitVec.ofNat 16 i) = true := by
      rwa [((h.sameButMemory i).trans hsame.sameButMemory).isWritable_eq]
    have hwwf : Memory.wf w.mem = true := by
      obtain ⟨_, rfl⟩ := hsame
      exact h.wf hwf i
    rw [hu, readByte_memWrite8_same _ hwwf hww rfl]
  | succ k hik ih =>
    rw [h.readByte_succ_ne (writable_not_device hw) (resolve_block_ne _ _ hik (by omega)), ih (by omega)]

/-- Where neither the writes nor what is between them touch a device, the devices' history stays as it was. -/
theorem devLog_eq (h : AscendingWrites s dst v u) {k : Nat}
    (hquiet : ∀ i < k, u (i + 1) = memWrite8 (dst + BitVec.ofNat 16 i) (v i) (u i))
    (hd : ∀ i < k, isDevice s (dst + BitVec.ofNat 16 i) = false) : (u k).devLog = s.devLog := by
  induction k with
  | zero => rw [h.start]
  | succ k ih =>
    have hlast : isDevice (u k) (dst + BitVec.ofNat 16 k) = false := by
      rw [(h.sameButMemory k).isDevice_eq]
      exact hd k (by omega)
    rw [hquiet k (by omega), devLog_memWrite8 _ hlast]
    exact ih (fun i hi => hquiet i (by omega)) fun i hi => hd i (by omega)

end AscendingWrites

/-! ### STMMU -/

/-- A store of one more entry is the store so far, then one entry written (43_mmu_dma_block.md R242). -/
theorem storeTable_succ (b : BitVec 3) (k : Nat) (e : BitVec 5) (a : Word) (s : State) :
    storeTable b (k + 1) e a s =
      memWrite8 (a + BitVec.ofNat 16 k) (ptEntry s b (e + BitVec.ofNat 5 k)) (storeTable b k e a s) := by
  induction k generalizing e a s with
  | zero => simp [storeTable]
  | succ k ih =>
    rw [storeTable, ih, add_one_add_ofNat, add_one_add_ofNat, ptEntry_of_pt (memWrite8_pt ..), ← storeTable]

theorem ascendingWrites_storeTable (b : BitVec 3) (e : BitVec 5) (a : Word) (s : State) :
    AscendingWrites s a (fun k => ptEntry s b (e + BitVec.ofNat 5 k)) (fun k => storeTable b k e a s) :=
  ⟨rfl, fun k => ⟨_, ⟨_, rfl⟩, storeTable_succ b k e a s⟩⟩

/-- Settles O32: STMMU is a run of ascending writes of the bank's entries. -/
theorem storePageTable : Obligations.StorePageTable := by
  intro s b addr
  have h := ascendingWrites_storeTable b 0 addr s
  obtain ⟨_, _, _, hframe⟩ := h.sameButMemory 32
  refine ⟨storeTable b 32 0 addr s, rfl, by rw [hframe], fun a hd hne => ?_, fun hwf hw => ⟨?_, fun e => ?_⟩⟩
  · exact h.readByte_ne hd fun i hi => by simpa [hi] using hne (BitVec.ofNat 5 i)
  · exact h.devLog_eq (fun i _ => storeTable_succ b i 0 addr s) fun i hi => by
      simpa [hi] using writable_not_device (hw (BitVec.ofNat 5 i))
  · simpa using h.readByte_written hwf e.isLt (by omega) (by simpa using hw e)

/-! ### BCPY -/

theorem ascendingWrites_blockCopy (src dst : Word) (s : State) :
    AscendingWrites s dst (fun k => readByte (blockCopy k src dst s) (src + BitVec.ofNat 16 k))
      (fun k => blockCopy k src dst s) :=
  ⟨rfl, fun k => ⟨_, sameButHistory_readDone _ _, blockCopy_succ k src dst s⟩⟩

/-- Settles O34: BCPY is a run of ascending writes, each of the byte read just before it; a source outside the
destination reads the same in every state of the run. -/
theorem blockCopy : Obligations.BlockCopy := by
  intro s n src dst
  have h := ascendingWrites_blockCopy src dst s
  obtain ⟨_, _, _, hframe⟩ := h.sameButMemory (n.toNat + 1)
  have hn := n.isLt
  refine ⟨Machine.blockCopy (n.toNat + 1) src dst s, fun k => Machine.blockCopy k src dst s, rfl, by rw [hframe], rfl,
    rfl, fun i _ => blockCopy_succ i src dst s, fun hwf i hi hw => ?_, fun a hd hne => ?_,
    fun hwf hsrc hdst hdisj => ⟨?_, ?_⟩⟩
  · exact h.readByte_written hwf (by omega) (by omega) hw
  · exact h.readByte_ne hd fun i hi => hne i (by omega)
  · refine h.devLog_eq (fun i hi => ?_) fun i hi => writable_not_device (hdst i (by omega))
    have hquiet : isDevice (Machine.blockCopy i src dst s) (src + BitVec.ofNat 16 i) = false :=
      ((h.sameButMemory i).isDevice_eq _).trans (hsrc i (by omega))
    rw [blockCopy_succ, memRead8_quiet hquiet]
  · intro i hi
    rw [h.readByte_written hwf (by omega) (by omega) (hdst i hi)]
    exact h.readByte_ne (hsrc i hi) fun j hj => hdisj i hi j (by omega)

/-! ### BCMP -/

/-- With no device in the two ranges, a compare leaves the state as it was and answers whether all pairs are equal,
and those before them were (43_mmu_dma_block.md R252). -/
theorem blockCompare_quiet {k : Nat} {src dst : Word} {s : State} (eq : Bool)
    (hd : ∀ i < k, isDevice s (src + BitVec.ofNat 16 i) = false ∧ isDevice s (dst + BitVec.ofNat 16 i) = false) :
    blockCompare k src dst eq s = (eq && decide (∀ i < k,
      readByte s (src + BitVec.ofNat 16 i) = readByte s (dst + BitVec.ofNat 16 i)), s) := by
  induction k generalizing src dst eq with
  | zero => simp [blockCompare]
  | succ k ih =>
    rw [Nat.forall_lt_succ_left] at hd
    obtain ⟨⟨hsrc, hdst⟩, hrest⟩ := hd
    simp only [BitVec.add_zero] at hsrc hdst
    rw [blockCompare, memRead8_quiet hsrc, memRead8_quiet hdst, ih _ (by simpa only [add_one_add_ofNat] using hrest)]
    simp only [add_one_add_ofNat, Nat.forall_lt_succ_left, BitVec.add_zero, Bool.decide_and, Bool.beq_eq_decide_eq,
      Bool.and_assoc]

/-- Settles O35: the frame by `sameButHistory_blockCompare`, VALUE by `blockCompare_quiet`. -/
theorem blockCompare : Obligations.BlockCompare := by
  intro s n src dst
  obtain ⟨_, hframe⟩ := sameButHistory_blockCompare (n.toNat + 1) src dst true s
  refine ⟨_, rfl, by simp only [hframe], by simp [FlagsAre], fun hd => ?_⟩
  have hquiet := blockCompare_quiet true fun i hi => hd i (Nat.le_of_lt_succ hi)
  simp [hquiet]

end Sys2Proof.Proofs
end

section
/-! The binary ALU (44_binary_alu.md): ADD and SUB in closed form; the logic and transfer laws are closed as they stand. -/

namespace Sys2Proof.Proofs

open Sys2Proof.Machine Sys2Proof.Laws

/-! ### Addition -/

theorem addLaw_eq {n : Nat} (x y : BitVec n) (fl : FlagNibble) :
    let sum := x.toNat + y.toNat
    let v := BitVec.ofNat n sum
    addLaw x y fl = (v, packFlags (v == 0) v.msb (flagF fl) (decide (2 ^ n ≤ sum))) := by
  simp only [addLaw, setL, flagV_setMV, flagM_setMV, flagF_setMV]

/-- Settles O28: the ADD law in closed form (`addLaw_eq`), at 8 and 16 bits. -/
theorem addition : Obligations.Addition := by
  intro s a b u w
  exact ⟨aluByte_flagsAre_of_law (addLaw_eq ..) rfl, aluWord_flagsAre_of_law (addLaw_eq ..) rfl⟩

/-! ### Subtraction -/

theorem sub_eq_ofInt {n : Nat} (x y : BitVec n) : x - y = BitVec.ofInt n ((x.toNat : Int) - y.toNat) := by
  simp [Int.sub_eq_add_neg, BitVec.ofInt_add, BitVec.ofInt_neg, BitVec.sub_eq_add_neg]

/-- The sign bits of SUB's FAULT formula are the signs of the operands as integers (44_binary_alu.md R272). -/
theorem subLaw_eq {n : Nat} (strict : Bool) (x y : BitVec n) (fl : FlagNibble) :
    let v := BitVec.ofInt n ((x.toNat : Int) - y.toNat)
    subLaw strict x y fl = (v, packFlags (v == 0) v.msb
      (decide (x.toInt < 0) !=
        (decide (y.toInt < 0) && if strict then decide (v.toInt < 0) else decide (v.toInt ≤ 0)))
      (decide (y.toNat ≤ x.toNat))) := by
  simp only [← sub_eq_ofInt, ← BitVec.msb_eq_toInt, subLaw, setF, flagV_setL, flagM_setL, flagL_setL, flagV_setMV,
    flagM_setMV]

/-- Settles O29: the SUB law in closed form (`subLaw_eq`), strict for the explicit word SUB alone. -/
theorem subtraction : Obligations.Subtraction := by
  intro s a b u w
  simp only [List.forall_mem_cons, List.not_mem_nil, false_imp_iff, implies_true, and_true]
  refine ⟨⟨?subb, ?sabb⟩, ?sub, ?sab⟩
  case subb => exact aluByte_flagsAre_of_law (subLaw_eq false ..) rfl
  case sabb => exact aluByte_flagsAre_of_law (subLaw_eq false ..) rfl
  case sub => exact aluWord_flagsAre_of_law (subLaw_eq true ..) rfl
  case sab => exact aluWord_flagsAre_of_law (subLaw_eq false ..) rfl

/-! ### Logic and transfers -/

/-- A byte register written with V and M of the value: F and L keep theirs (44_binary_alu.md R273). -/
theorem aluByte_flagsAre_of_setMV {o : Host.Outcome State Fault Refusal} {s : State} {r : Nibble} {v : Byte}
    (ho : o = .next { setX s r v with flags := setMV v s.flags }) :
    ∃ t, o = .next t ∧ AluByte s t r v ∧ FlagsAre t (v == 0) v.msb (flagF s.flags) (flagL s.flags) :=
  aluByte_flagsAre_of_law (p := (v, setMV v s.flags)) rfl ho

/-- A word register written with V and M of the value: F and L keep theirs (44_binary_alu.md R273). -/
theorem aluWord_flagsAre_of_setMV {o : Host.Outcome State Fault Refusal} {s : State} {r : WReg} {v : Word}
    (ho : o = .next { setXw s r v with flags := setMV v s.flags }) :
    ∃ t, o = .next t ∧ AluWord s t r v ∧ FlagsAre t (v == 0) v.msb (flagF s.flags) (flagL s.flags) :=
  aluWord_flagsAre_of_law (p := (v, setMV v s.flags)) rfl ho

/-- Settles O30: every instruction of the two lists writes its value to the destination and `setMV` of it to FLAGS,
as its arm of `exec` says. -/
theorem logicAndTransfer : Obligations.LogicAndTransfer := by
  intro s a b u w
  refine ⟨fun p hp => ?bytes, fun p hp => ?words⟩
  case bytes => fin_cases hp <;> exact aluByte_flagsAre_of_setMV rfl
  case words => fin_cases hp <;> exact aluWord_flagsAre_of_setMV rfl

end Sys2Proof.Proofs
end

section
/-! The effective address of every mode and what computing it may touch (45_load_store.md R310 to R320), and the
encodings that name no address (R316, R317, 43_mmu_dma_block.md R240, 46_jump_call_stack.md R365). -/

namespace Sys2Proof.Proofs

open Sys2Proof.Machine Sys2Proof.Laws

/-! ### The address -/

/-- Settles O36: each mode is its rule by definition; a pre-decremented register is read back as what it was set to. -/
theorem effectiveAddress : Obligations.EffectiveAddress := by
  intro s z a d r
  refine ⟨rfl, rfl, rfl, rfl, rfl, rfl, rfl, fun disp hdisp => ?_⟩
  have hx : idxDisp disp = if disp = none then 0 else d.signExtend 16 := by fin_cases hdisp <;> rfl
  simp [effAddr, eaIndexed, hx]

/-! ### The state it leaves -/

theorem sameButHistory_memRead16 (s : State) (a : Word) : SameButHistory s (memRead16 a s).2 :=
  (sameButHistory_readDone s a).trans (sameButHistory_readDone _ (a + 1))

/-- The state with the index register stepped, in the modes that step one (45_load_store.md R316, R320). -/
def stepIndex : Mode → Size → State → State
  | .indexed r .postInc _ _, z, s => setXw s r (getXw s r + z.bytes)
  | .indexed r .preDec _ _, z, s => setXw s r (getXw s r - z.bytes)
  | .indexed _ .plain _ _, _, s => s
  | .literal, _, s | .direct _, _, s | .indirect _, _, s | .relative _, _, s | .relIndirect _, _, s
  | .register _, _, s => s

/-- Mode 5 reads its pointer, if it has one, in the state with the index register stepped (45_load_store.md R316). -/
theorem eaIndexed_eq (r : WReg) (st : IdxStep) (ind : Bool) (disp : Option Byte) (z : Size) (s : State) :
    ∃ a, eaIndexed r st ind disp z s =
      if ind then memRead16 a (stepIndex (.indexed r st ind disp) z s)
      else (a, stepIndex (.indexed r st ind disp) z s) := by
  cases st <;> exact ⟨_, rfl⟩

/-- Beside the stepped index register only PC and the devices' history may differ (45_load_store.md R319). -/
theorem effAddr_state (m : Mode) (z : Size) (s : State) : ∃ pc log,
    (effAddr m z s).2 = { stepIndex m z s with pc := pc, devLog := log } := by
  have of_history {t u : State} : SameButHistory t u → ∃ pc log, u = { t with pc := pc, devLog := log } :=
    fun ⟨_, h⟩ => ⟨_, _, h⟩
  cases m with
  | literal | direct _ | relative _ | register _ => exact ⟨_, _, rfl⟩
  | indirect _ | relIndirect _ => exact of_history (sameButHistory_memRead16 s _)
  | indexed r st ind disp =>
    obtain ⟨a, h⟩ := eaIndexed_eq r st ind disp z s
    rw [effAddr, h]
    cases ind with
    | false => exact ⟨_, _, rfl⟩
    | true => exact of_history (sameButHistory_memRead16 _ a)

theorem stepIndex_eq (m : Mode) (z : Size) (s : State) :
    stepIndex m z s = { s with sram := (stepIndex m z s).sram } := by
  unfold stepIndex
  split <;> rfl

theorem effAddr_frame (m : Mode) (z : Size) (s : State) : (effAddr m z s).2 =
    { s with pc := (effAddr m z s).2.pc, sram := (effAddr m z s).2.sram, devLog := (effAddr m z s).2.devLog } := by
  obtain ⟨pc, log, h⟩ := effAddr_state m z s
  rw [h, stepIndex_eq]

/-- A mode without indirection reads no memory, hence no device (45_load_store.md R319). -/
theorem effAddr_devLog {m : Mode} (z : Size) (s : State) (hidx : ∀ r st d, m ≠ .indexed r st true d)
    (hind : ∀ a, m ≠ .indirect a) (hrel : ∀ d, m ≠ .relIndirect d) : (effAddr m z s).2.devLog = s.devLog := by
  cases m with
  | literal | direct _ | relative _ | register _ => rfl
  | indirect a => exact absurd rfl (hind a)
  | relIndirect d => exact absurd rfl (hrel d)
  | indexed r st ind disp =>
    cases ind with
    | true => exact absurd rfl (hidx r st disp)
    | false =>
      obtain ⟨a, h⟩ := eaIndexed_eq r st false disp z s
      rw [effAddr, h, stepIndex_eq]
      rfl

section
variable {m : Mode} {s : State}

theorem sramByte_stepIndex {i : Byte} (z : Size) (hi : ∀ j ∈ m.steppedRegs, i ≠ regIndex s.ipl j) :
    sramByte (stepIndex m z s) i = sramByte s i := by
  unfold stepIndex
  split
  case h_1 | h_2 => exact sramByte_setXw_ne _ _ (hi _ (by simp [Mode.steppedRegs])) (hi _ (by simp [Mode.steppedRegs]))
  all_goals rfl

theorem readByte_stepIndex {a : Word} (z : Size) (ha : ∀ j ∈ m.steppedRegs, a ≠ regAddr s j) :
    readByte (stepIndex m z s) a = readByte s a := by
  have setXw_ne (r : WReg) (v : Word) (hhi : a ≠ regAddr s r.hi) (hlo : a ≠ regAddr s r.lo) :
      readByte (setXw s r v) a = readByte s a := by
    obtain ⟨-, -, hbytes⟩ := aluWord_set s r v s.flags
    exact hbytes a hhi hlo
  unfold stepIndex
  split
  case h_1 | h_2 => exact setXw_ne _ _ (ha _ (by simp [Mode.steppedRegs])) (ha _ (by simp [Mode.steppedRegs]))
  all_goals rfl

theorem sramByte_effAddr {i : Byte} (z : Size) (hi : ∀ j ∈ m.steppedRegs, i ≠ regIndex s.ipl j) :
    sramByte (effAddr m z s).2 i = sramByte s i := by
  obtain ⟨_, _, h⟩ := effAddr_state m z s
  rw [h]
  exact sramByte_stepIndex z hi

/-- Every byte is as before but a stepped index register, a device's apart (45_load_store.md R319). -/
theorem readByte_effAddr {a : Word} (z : Size) (hd : isDevice s a = false)
    (ha : ∀ j ∈ m.steppedRegs, a ≠ regAddr s j) : readByte (effAddr m z s).2 a = readByte s a := by
  obtain ⟨_, _, h⟩ := effAddr_state m z s
  have hdev : isDevice (stepIndex m z s) a = false := by rw [stepIndex_eq]; exact hd
  calc readByte (effAddr m z s).2 a = readByte (stepIndex m z s) a :=
        readByte_quiet (by rw [h]) (by rw [h]) (by rw [h]) (by rw [h]) (by rw [h]) hdev
    _ = readByte s a := readByte_stepIndex z ha

end

/-- Settles O37: all by the lemmas of this part, PC by `effAddr_pc`. -/
theorem addressingFrame : Obligations.AddressingFrame := fun s m z =>
  ⟨effAddr_frame m z s, effAddr_pc z s, fun _ => sramByte_effAddr z, effAddr_devLog z s⟩

/-! ### No address: invalid modes, submodes and banks -/

/-- Settles O58: each encoding of the list has `.invalidAddressingMode` as its reason in `fatalReason`. -/
theorem invalidModesStop : Obligations.InvalidModesStop := by
  intro s i hi
  fin_cases hi <;> exact exec_of_fatalReason_some rfl s

/-- Settles O59: each encoding of the two lists has its reason in `fatalReason`, whatever its other bits. -/
theorem invalidSubmodesAndBanksStop : Obligations.InvalidSubmodesAndBanksStop := by
  intro s h k
  refine ⟨fun i hi => ?submodes, fun i hi => ?banks⟩
  case submodes => fin_cases hi <;> exact exec_of_fatalReason_some rfl s
  case banks => fin_cases hi <;> exact exec_of_fatalReason_some rfl s

end Sys2Proof.Proofs
end

section
/-! The addressed loads and stores (45_load_store.md R310, R321 to R335): the address, then one access in the state it
leaves, then the register and FLAGS. -/

namespace Sys2Proof.Proofs

open Sys2Proof.Machine Sys2Proof.Laws

/-! ### Places after the address is computed -/

section
variable (m : Mode) (z : Size) (s : State) (a : Word)

@[simp] theorem resolve_effAddr : resolve (effAddr m z s).2 a = resolve s a := resolve_congr (by simp) (by simp) a

@[simp] theorem isDevice_effAddr : isDevice (effAddr m z s).2 a = isDevice s a :=
  isDevice_congr (by simp) (by simp) (by simp) a

@[simp] theorem isWritable_effAddr : isWritable (effAddr m z s).2 a = isWritable s a :=
  isWritable_congr (by simp) (by simp) (by simp) a

end

theorem flagsAre_setMV {n : Nat} {v : BitVec n} {s t : State} (h : t.flags = setMV v s.flags) :
    FlagsAre t (v == 0) v.msb (flagF s.flags) (flagL s.flags) :=
  flagsAre_of_packFlags h

/-! ### Loads -/

/-- A byte load writes one register and FLAGS in the state the read left. -/
theorem aluByte_loadByte (i : Nibble) (m : Mode) (s : State) :
    let ea := effAddr m .byte s
    AluByte (memRead8 ea.1 ea.2).2 (loadByte i m s) i (readByte ea.2 ea.1) :=
  aluByte_set ..

/-- A word load writes one register and FLAGS in the state the read left. -/
theorem aluWord_loadWord (r : WReg) (m : Mode) (s : State) :
    let ea := effAddr m .word s
    AluWord (memRead16 ea.1 ea.2).2 (loadWord r m s) r (memRead16 ea.1 ea.2).1 :=
  aluWord_set ..

theorem SameButHistory.getX_eq {s t : State} : SameButHistory s t → ∀ i, getX t i = getX s i := by
  rintro ⟨_, rfl⟩ _
  rfl

theorem SameButHistory.getXw_eq {s t : State} : SameButHistory s t → ∀ r, getXw t r = getXw s r := by
  rintro ⟨_, rfl⟩ _
  rfl

section
variable {m : Mode} {z : Size} {s u t : State} (hread : SameButHistory (effAddr m z s).2 u)
include hread

/-- A read at the address, then registers and FLAGS: what may differ from the state before the address. -/
theorem frame_of_read_at_effAddr (ht : t = { u with sram := t.sram, flags := t.flags }) :
    t = { s with pc := (effAddr m z s).2.pc, flags := t.flags, sram := t.sram, devLog := t.devLog } := by
  obtain ⟨_, rfl⟩ := hread
  calc t = { (effAddr m z s).2 with flags := t.flags, sram := t.sram, devLog := t.devLog } := by rw [ht]
    _ = _ := by rw [effAddr_frame m z s]

/-- A read at the address leaves the bytes as the address did. -/
theorem readByte_of_read_at_effAddr {a : Word} (hd : isDevice s a = false)
    (ha : ∀ j ∈ m.steppedRegs, a ≠ regAddr s j) : readByte u a = readByte s a :=
  (hread.readByte_eq (by simpa using hd)).trans (readByte_effAddr z hd ha)

theorem regAddr_of_read_at_effAddr (i : Nibble) : regAddr u i = regAddr s i := by
  obtain ⟨_, rfl⟩ := hread
  simp [regAddr]

end

/-- Settles O38: the byte read is written to the register as the ALU writes one (`aluByte_loadByte`). -/
theorem loadByteForms : Obligations.LoadByteForms := by
  intro s m p hp ea v
  have hexec : exec p.1 s = .next (loadByte p.2 m s) := by fin_cases hp <;> rfl
  have hread : SameButHistory ea.2 (memRead8 ea.1 ea.2).2 := sameButHistory_readDone ea.2 ea.1
  obtain ⟨hreg, hframe, hbytes⟩ := aluByte_loadByte p.2 m s
  refine ⟨_, hexec, frame_of_read_at_effAddr hread hframe, hreg, fun i hi => ?others,
    flagsAre_setMV (loadByte_flags ..), fun hd => ?history, fun a hd ha hidx => ?bytes⟩
  case others => exact (getX_setX_ne _ _ hi).trans (hread.getX_eq i)
  case history =>
    have hquiet := memRead8_quiet (s := ea.2) (a := ea.1) (by rwa [isDevice_effAddr])
    have hlog : (memRead8 ea.1 ea.2).2.devLog = ea.2.devLog := by rw [hquiet]
    exact hlog
  case bytes =>
    rw [hbytes a (by rwa [regAddr_of_read_at_effAddr hread]), readByte_of_read_at_effAddr hread hd hidx]

/-- Settles O39: the word read is written to the register as the ALU writes one (`aluWord_loadWord`). -/
theorem loadWordForms : Obligations.LoadWordForms := by
  intro s m p hp _ ea v
  have hexec : exec p.1 s = .next (loadWord p.2 m s) := by fin_cases hp <;> rfl
  have hread : SameButHistory ea.2 (memRead16 ea.1 ea.2).2 := sameButHistory_memRead16 ea.2 ea.1
  obtain ⟨hreg, hframe, hbytes⟩ := aluWord_loadWord p.2 m s
  refine ⟨_, hexec, frame_of_read_at_effAddr hread hframe, hreg, fun q hq => ?others,
    flagsAre_setMV (loadWord_flags ..), fun hd hd' => ?quiet, fun a hd hhi hlo hidx => ?bytes⟩
  case others => exact (getXw_setXw_ne _ _ hq).trans (hread.getXw_eq q)
  case quiet =>
    have hquiet := memRead16_quiet (s := ea.2) (a := ea.1) (by rwa [isDevice_effAddr]) (by rwa [isDevice_effAddr])
    have hlog : (memRead16 ea.1 ea.2).2.devLog = ea.2.devLog := by rw [hquiet]
    exact ⟨congrArg Prod.fst hquiet, hlog⟩
  case bytes =>
    rw [hbytes a (by rwa [regAddr_of_read_at_effAddr hread]) (by rwa [regAddr_of_read_at_effAddr hread]),
      readByte_of_read_at_effAddr hread hd hidx]

/-! ### Stores -/

/-- A write changes the byte of no place but the one it stores to, a device's apart (20_memory.md R63, R64). -/
theorem readByte_memWrite8_not_stored {s : State} {a b : Word} (v : Byte) (hd : isDevice s b = false)
    (hne : isWritable s a = true → resolve s b ≠ resolve s a) : readByte (memWrite8 a v s) b = readByte s b := by
  by_cases heq : resolve s b = resolve s a
  · have hdrop : isDevice s a = false := by simpa only [isDevice, heq] using hd
    have hw : isWritable s a = false := Bool.eq_false_iff.mpr fun hw => hne hw heq
    rw [memWrite8_dropped v hw hdrop]
  · exact readByte_memWrite8_ne v heq hd

theorem readByte_memWrite16_not_stored {s : State} {a b : Word} (v : Word) (hd : isDevice s b = false)
    (hne : isWritable s a = true → resolve s b ≠ resolve s a)
    (hne' : isWritable s (a + 1) = true → resolve s b ≠ resolve s (a + 1)) :
    readByte (memWrite16 a v s) b = readByte s b := by
  rw [memWrite16, readByte_memWrite8_not_stored _ (by simpa using hd) (by simpa using hne'),
    readByte_memWrite8_not_stored _ hd hne]

theorem devLog_memWrite16 {s : State} {a : Word} (v : Word) (hd : isDevice s a = false)
    (hd' : isDevice s (a + 1) = false) : (memWrite16 a v s).devLog = s.devLog := by
  rw [memWrite16, devLog_memWrite8 _ (by simpa using hd'), devLog_memWrite8 _ hd]

theorem sameButMemory_memWrite16 (a v : Word) (s : State) : SameButMemory s (memWrite16 a v s) :=
  (sameButMemory_memWrite8 a (hiByte v) s).trans (sameButMemory_memWrite8 ..)

/-- A write at the address, then FLAGS: what may differ from the state before the address. -/
theorem frame_of_write_at_effAddr {m : Mode} {z : Size} {s u t : State} (hwrite : SameButMemory (effAddr m z s).2 u)
    (ht : t = { u with flags := t.flags }) : t =
      { s with pc := (effAddr m z s).2.pc, flags := t.flags, sram := t.sram, mem := t.mem, devLog := t.devLog } := by
  obtain ⟨_, _, _, rfl⟩ := hwrite
  calc t = { (effAddr m z s).2 with flags := t.flags, sram := t.sram, mem := t.mem, devLog := t.devLog } := by rw [ht]
    _ = _ := by rw [effAddr_frame m z s]

theorem readByte_flags (s : State) (fl : FlagNibble) (a : Word) : readByte { s with flags := fl } a = readByte s a :=
  readByte_congr rfl rfl rfl rfl rfl rfl a

/-- A byte store reads as its write does: FLAGS are no memory. -/
theorem readByte_storeByte (i : Nibble) (m : Mode) (s : State) (a : Word) :
    let ea := effAddr m .byte s
    readByte (storeByte i m s) a = readByte (memWrite8 ea.1 (getX ea.2 i) ea.2) a :=
  readByte_flags ..

/-- A word store reads as its write does: FLAGS are no memory. -/
theorem readByte_storeWord (r : WReg) (m : Mode) (s : State) (a : Word) :
    let ea := effAddr m .word s
    readByte (storeWord r m s) a = readByte (memWrite16 ea.1 (getXw ea.2 r) ea.2) a :=
  readByte_flags ..

/-- Settles O40: the store is the byte write in the state the address left, then FLAGS. -/
theorem storeByteForms : Obligations.StoreByteForms := by
  intro s m hwf p hp ea v
  have hexec : exec p.1 s = .next (storeByte p.2 m s) := by fin_cases hp <;> rfl
  have hwfEa : Memory.wf ea.2.mem = true := by rwa [effAddr_mem]
  refine ⟨_, hexec, frame_of_write_at_effAddr (sameButMemory_memWrite8 ea.1 v ea.2) rfl,
    flagsAre_setMV (storeByte_flags ..), fun hw => ?stored, fun q hd hq => ?device, fun hd => ?history,
    fun a hd hne hidx => ?bytes⟩
  case stored =>
    rw [readByte_storeByte]
    exact readByte_memWrite8_same v hwfEa (by rwa [isWritable_effAddr]) rfl
  case device =>
    exact congrArg State.devLog (memWrite8_device (s := ea.2) v (by rwa [isDevice_effAddr]) (by rwa [resolve_effAddr]))
  case history => exact devLog_memWrite8 (s := ea.2) v (by rwa [isDevice_effAddr])
  case bytes =>
    rw [readByte_storeByte, readByte_memWrite8_not_stored _ (by simpa using hd) (by simpa using hne),
      readByte_effAddr _ hd hidx]

/-- Settles O41: the store is the word write in the state the address left, then FLAGS. -/
theorem storeWordForms : Obligations.StoreWordForms := by
  intro s m hwf p hp _ ea v
  have hexec : exec p.1 s = .next (storeWord p.2 m s) := by fin_cases hp <;> rfl
  have hwfEa : Memory.wf ea.2.mem = true := by rwa [effAddr_mem]
  refine ⟨_, hexec, frame_of_write_at_effAddr (sameButMemory_memWrite16 ea.1 v ea.2) rfl,
    flagsAre_setMV (storeWord_flags ..), fun hw => ?high, fun hw => ?low, fun hd hd' => ?history,
    fun a hd hne hne' hidx => ?bytes⟩
  case high =>
    rw [readByte_storeWord]
    exact readByte_memWrite16_hi v hwfEa (by rwa [isWritable_effAddr])
  case low =>
    rw [readByte_storeWord]
    exact readByte_memWrite16_lo v hwfEa (by rwa [isWritable_effAddr])
  case history => exact devLog_memWrite16 (s := ea.2) v (by rwa [isDevice_effAddr]) (by rwa [isDevice_effAddr])
  case bytes =>
    rw [readByte_storeWord, readByte_memWrite16_not_stored _ (by simpa using hd) (by simpa using hne)
      (by simpa using hne'), readByte_effAddr _ hd hidx]

end Sys2Proof.Proofs
end

section
/-! The stack where it lies in RAM (20_memory.md R80, R81), the jump and the calls (46_jump_call_stack.md R360 to R362),
and the returns that undo the calls. A call frame and PUSH's run are byte writes to one short block of RAM: what such a
block holds and what it leaves alone is proved once. -/

namespace Sys2Proof.Proofs

open Sys2Proof.Machine Sys2Proof.Laws

/-! ### What pushes leave unchanged, wherever the stack lies -/

theorem SameButMemory.eq_with {s t : State} : SameButMemory s t →
    t = { s with sram := t.sram, mem := t.mem, devLog := t.devLog } := by
  rintro ⟨_, _, _, rfl⟩
  rfl

theorem SameButRegisters.sameButMemory {s t : State} (h : SameButRegisters s t) : SameButMemory s t :=
  ⟨_, _, _, h⟩

theorem sameButMemory_setXw (s : State) (r : WReg) (v : Word) : SameButMemory s (setXw s r v) := ⟨_, _, _, rfl⟩

theorem sameButMemory_push8 (v : Byte) (s : State) : SameButMemory s (push8 v s) :=
  (sameButMemory_setXw s .S _).trans (sameButMemory_memWrite8 ..)

theorem sameButMemory_push16 (v : Word) (s : State) : SameButMemory s (push16 v s) :=
  (sameButMemory_setXw s .S _).trans (sameButMemory_memWrite16 ..)

/-- An address that is no literal's moves neither PC nor anything else but the register file and the devices' history
(45_load_store.md R319). -/
theorem sameButRegisters_effAddr {m : Mode} (z : Size) (s : State) (hm : m ≠ .literal) :
    SameButRegisters s (effAddr m z s).2 := by
  have hframe := effAddr_frame m z s
  rwa [effAddr_pc z s hm] at hframe

theorem ne_literal_of_isTarget {m : Mode} (h : m.isTarget = true) : m ≠ .literal := by
  rintro rfl
  cases h

/-- JSR changes PC, memory and perhaps the devices' history, and X is the return address
(46_jump_call_stack.md R361). -/
theorem callSubroutine_frame {m : Mode} (s : State) (hm : m ≠ .literal) :
    ∃ u, SameButMemory s u ∧ getXw u .X = s.pc ∧
      Machine.callSubroutine m s = { u with pc := (effAddr m .word s).1 } := by
  refine ⟨_, ?_, ?_, rfl⟩
  · exact (sameButRegisters_effAddr .word s hm).sameButMemory.trans <|
      (sameButMemory_push16 _ _).trans (sameButMemory_setXw _ .X _)
  · rw [getXw_setXw, push16_pc, effAddr_pc .word s hm]

/-- JSYS changes MB, PC, memory and perhaps the devices' history, and X is the return address
(46_jump_call_stack.md R362). -/
theorem systemCall_frame (arg : Byte) (s : State) : ∃ u, SameButMemory s u ∧ getXw u .X = s.pc ∧
    Machine.systemCall arg s = { u with mb := 0, pc := u.cfg.jsysVector } := by
  refine ⟨_, ?_, ?_, rfl⟩
  · exact (sameButMemory_push8 _ s).trans <| (sameButMemory_push8 _ _).trans <| (sameButMemory_push16 _ _).trans <|
      (sameButMemory_push8 arg _).trans (sameButMemory_setXw _ .X _)
  · simp only [getXw_setXw, push8_pc, push16_pc]

/-! ### Registers beside RAM -/

@[simp] theorem isQuiet_setXw (s : State) (r : WReg) (v a : Word) : isQuiet (setXw s r v) a = isQuiet s a :=
  isQuiet_congr rfl rfl rfl a

theorem SameButMemory.isRam_eq {s t : State} : SameButMemory s t → ∀ a, isRam t a = isRam s a := by
  rintro ⟨_, _, _, rfl⟩ a
  exact isRam_congr rfl rfl rfl a

/-- A register written with the value it has: nothing changes. -/
@[simp] theorem setXw_getXw (s : State) (r : WReg) : setXw s r (getXw s r) = s := by
  have hsram : (setXw s r (getXw s r)).sram = s.sram := sram_ext fun i => by
    by_cases hhi : i = regIndex s.ipl r.hi
    · subst hhi
      exact (getX_hi_setXw s r _).trans (hiByte_wordOf ..)
    by_cases hlo : i = regIndex s.ipl r.lo
    · subst hlo
      exact (getX_lo_setXw s r _).trans (loByte_wordOf ..)
    exact sramByte_setXw_ne s _ hhi hlo
  exact congrArg (fun m => ({ s with sram := m } : State)) hsram

theorem readByte_setXw_ne {s : State} {r : WReg} {a : Word} (v : Word) (hhi : a ≠ regAddr s r.hi)
    (hlo : a ≠ regAddr s r.lo) : readByte (setXw s r v) a = readByte s a := by
  obtain ⟨-, -, hbytes⟩ := aluWord_set s r v s.flags
  exact hbytes a hhi hlo

section
variable {s : State} {a : Word} (h : isRam s a = true)
include h

theorem exists_ram_place : ∃ p, resolve s a = .phys p ∧ regionAt s.regions p = some .ram := by
  unfold isRam at h
  split at h
  · cases h
  · next p hp => exact ⟨p, hp, by simpa using h⟩

/-- A write to RAM changes the region contents and nothing else (20_memory.md R64). -/
theorem memWrite8_ram (v : Byte) : memWrite8 a v s = { s with mem := (memWrite8 a v s).mem } := by
  obtain ⟨p, hp, hram⟩ := exists_ram_place h
  simp only [memWrite8, hp, physWrite, hram]

/-- A write to RAM and a write to a register may change places. -/
theorem memWrite8_setXw (v : Byte) (r : WReg) (w : Word) :
    memWrite8 a v (setXw s r w) = setXw (memWrite8 a v s) r w := by
  obtain ⟨p, hp, hram⟩ := exists_ram_place h
  have hp' : resolve (setXw s r w) a = .phys p := (resolve_congr rfl rfl a).trans hp
  simp only [memWrite8, hp, hp', physWrite, hram, setXw_regions]
  rfl

end

/-! ### Bytes stored in a block -/

/-- `s` after byte writes to a block at `base`, each an offset and a byte, the last of the list first, as a stack that
grows down is filled. -/
def stored (base : Word) (ws : List (Nat × Byte)) (s : State) : State :=
  ws.foldr (fun w => memWrite8 (base + BitVec.ofNat 16 w.1) w.2) s

section
variable {base : Word} {ws : List (Nat × Byte)} {s : State}

@[simp] theorem stored_nil (base : Word) (s : State) : stored base [] s = s := rfl

@[simp] theorem stored_cons (base : Word) (w : Nat × Byte) (ws : List (Nat × Byte)) (s : State) :
    stored base (w :: ws) s = memWrite8 (base + BitVec.ofNat 16 w.1) w.2 (stored base ws s) := rfl

theorem sameButMemory_stored (base : Word) (ws : List (Nat × Byte)) (s : State) :
    SameButMemory s (stored base ws s) := by
  induction ws with
  | nil => exact ⟨_, _, _, rfl⟩
  | cons w ws ih => exact ih.trans (sameButMemory_memWrite8 ..)

@[simp] theorem isRam_stored (a : Word) : isRam (stored base ws s) a = isRam s a :=
  (sameButMemory_stored base ws s).isRam_eq a

theorem wf_stored (hwf : Memory.wf s.mem = true) : Memory.wf (stored base ws s).mem = true := by
  induction ws with
  | nil => exact hwf
  | cons w ws ih => exact wf_memWrite8 _ _ ih

/-- The writes leave every place outside theirs alone, a device's apart. -/
theorem readByte_stored_ne {a : Word} (hd : isDevice s a = false)
    (hne : ∀ w ∈ ws, resolve s a ≠ resolve s (base + BitVec.ofNat 16 w.1)) :
    readByte (stored base ws s) a = readByte s a := by
  induction ws with
  | nil => rfl
  | cons w ws ih =>
    have hsame := sameButMemory_stored base ws s
    rw [List.forall_mem_cons] at hne
    obtain ⟨hw, hws⟩ := hne
    rw [stored_cons, readByte_memWrite8_ne _ (by simpa only [hsame.resolve_eq] using hw) (by rwa [hsame.isDevice_eq]),
      ih hws]

/-- Every byte of the block lies in RAM. -/
def InRam (s : State) (base : Word) (ws : List (Nat × Byte)) : Prop :=
  ∀ w ∈ ws, isRam s (base + BitVec.ofNat 16 w.1) = true

theorem inRam_of_lt {n : Nat} (hram : ∀ k : Fin n, isRam s (base + BitVec.ofNat 16 k) = true)
    (hlt : ∀ w ∈ ws, w.1 < n) : InRam s base ws :=
  fun w hw => hram ⟨w.1, hlt w hw⟩

/-- Each byte of a block shorter than a page, written once, is what was written to it. -/
theorem readByte_stored (hwf : Memory.wf s.mem = true) (hram : InRam s base ws) (hnodup : (ws.map Prod.fst).Nodup)
    (hlt : ∀ w ∈ ws, w.1 < 2048) {w : Nat × Byte} (hw : w ∈ ws) :
    readByte (stored base ws s) (base + BitVec.ofNat 16 w.1) = w.2 := by
  induction ws with
  | nil => cases hw
  | cons x ws ih =>
    have hsame := sameButMemory_stored base ws s
    simp only [InRam, List.forall_mem_cons, List.map_cons, List.nodup_cons] at hram hlt hnodup
    obtain ⟨hx, hws⟩ := hram
    obtain ⟨hxlt, hwslt⟩ := hlt
    obtain ⟨hnew, hnodup⟩ := hnodup
    rw [stored_cons]
    obtain rfl | hw := List.mem_cons.mp hw
    · exact readByte_memWrite8_same _ (wf_stored hwf) (ram_writable (by rwa [isRam_stored])) rfl
    · have hoff : w.1 ≠ x.1 := fun h => hnew (h ▸ List.mem_map_of_mem hw)
      have hplace : resolve s (base + BitVec.ofNat 16 w.1) ≠ resolve s (base + BitVec.ofNat 16 x.1) := by
        obtain h | h := Nat.lt_or_gt_of_ne hoff
        · exact resolve_block_ne s base h hxlt
        · exact (resolve_block_ne s base h (hwslt w hw)).symm
      rw [readByte_memWrite8_ne _ (by simpa only [hsame.resolve_eq] using hplace), ih hws hnodup hwslt hw]
      rw [hsame.isDevice_eq]
      exact writable_not_device (ram_writable (hws w hw))

/-- Writes to RAM change the region contents and nothing else. -/
theorem stored_ram (hram : InRam s base ws) : stored base ws s = { s with mem := (stored base ws s).mem } := by
  induction ws with
  | nil => rfl
  | cons w ws ih =>
    obtain ⟨hw, hws⟩ := List.forall_mem_cons.mp hram
    have hw' : isRam (stored base ws s) (base + BitVec.ofNat 16 w.1) = true := by rwa [isRam_stored]
    rw [stored_cons, memWrite8_ram hw', ih hws]

@[simp] theorem stored_pc : (stored base ws s).pc = s.pc := by
  obtain ⟨_, _, _, h⟩ := sameButMemory_stored base ws s
  rw [h]

@[simp] theorem stored_ipl : (stored base ws s).ipl = s.ipl := by
  obtain ⟨_, _, _, h⟩ := sameButMemory_stored base ws s
  rw [h]

@[simp] theorem stored_mb : (stored base ws s).mb = s.mb := by
  obtain ⟨_, _, _, h⟩ := sameButMemory_stored base ws s
  rw [h]

@[simp] theorem stored_cfg : (stored base ws s).cfg = s.cfg := by
  obtain ⟨_, _, _, h⟩ := sameButMemory_stored base ws s
  rw [h]

theorem getXw_stored (hram : InRam s base ws) (r : WReg) : getXw (stored base ws s) r = getXw s r := by
  rw [stored_ram hram]
  rfl

theorem regAddr_stored (j : Nibble) : regAddr (stored base ws s) j = regAddr s j := by
  simp only [regAddr, stored_ipl]

/-- A register written beside a block in RAM leaves the block's bytes as they were stored. -/
theorem readByte_setXw_stored (r : WReg) (v : Word) (hwf : Memory.wf s.mem = true) (hram : InRam s base ws)
    (hnodup : (ws.map Prod.fst).Nodup) (hlt : ∀ w ∈ ws, w.1 < 2048) {w : Nat × Byte} (hw : w ∈ ws) :
    readByte (setXw (stored base ws s) r v) (base + BitVec.ofNat 16 w.1) = w.2 := by
  have hquiet : isQuiet (stored base ws s) (base + BitVec.ofNat 16 w.1) = true :=
    ram_quiet ((isRam_stored _).trans (hram w hw))
  rw [readByte_setXw_quiet r v hquiet, readByte_stored hwf hram hnodup hlt hw]

/-- Beside a block and a register written after it every byte is as before, a device's apart. -/
theorem readByte_setXw_stored_ne {r : WReg} {a : Word} (v : Word) (hd : isDevice s a = false)
    (hne : ∀ w ∈ ws, resolve s a ≠ resolve s (base + BitVec.ofNat 16 w.1)) (hhi : a ≠ regAddr s r.hi)
    (hlo : a ≠ regAddr s r.lo) : readByte (setXw (stored base ws s) r v) a = readByte s a := by
  rw [readByte_setXw_ne v (by rwa [regAddr_stored]) (by rwa [regAddr_stored]), readByte_stored_ne hd hne]

/-- A byte pushed onto RAM is stored below S, and S is one lower (20_memory.md R80). -/
theorem push8_stored {i : Nat} (v : Byte) (h : isRam s (base + BitVec.ofNat 16 i) = true) :
    push8 v (setXw (stored base ws s) .S (base + BitVec.ofNat 16 (i + 1))) =
      setXw (stored base ((i, v) :: ws) s) .S (base + BitVec.ofNat 16 i) := by
  have hsp : base + BitVec.ofNat 16 (i + 1) - 1 = base + BitVec.ofNat 16 i := by bv_omega
  have hram : isRam (stored base ws s) (base + BitVec.ofNat 16 i) = true := by rwa [isRam_stored]
  simp only [push8, getXw_setXw, setXw_setXw, hsp, memWrite8_setXw hram, stored_cons]

/-- A word pushed onto RAM is stored below S, high byte first, and S is two lower (20_memory.md R81). -/
theorem push16_stored {i : Nat} (v : Word) (h : isRam s (base + BitVec.ofNat 16 i) = true)
    (h' : isRam s (base + BitVec.ofNat 16 (i + 1)) = true) :
    push16 v (setXw (stored base ws s) .S (base + BitVec.ofNat 16 (i + 2))) =
      setXw (stored base ((i + 1, loByte v) :: (i, hiByte v) :: ws) s) .S (base + BitVec.ofNat 16 i) := by
  have hsp : base + BitVec.ofNat 16 (i + 2) - 2 = base + BitVec.ofNat 16 i := by bv_omega
  have hlo : base + BitVec.ofNat 16 i + 1 = base + BitVec.ofNat 16 (i + 1) := by bv_omega
  have hram : isRam (stored base ws s) (base + BitVec.ofNat 16 i) = true := by rwa [isRam_stored]
  have hram' : isRam (stored base ((i, hiByte v) :: ws) s) (base + BitVec.ofNat 16 (i + 1)) = true := by
    rwa [isRam_stored]
  rw [stored_cons, ← memWrite8_setXw hram', stored_cons, ← memWrite8_setXw hram, push16, memWrite16, getXw_setXw,
    setXw_setXw, hsp, hlo]

end

/-! ### The callee's entry -/

/-- What a call leaves before its jump: the frame stored, S at its first byte, the return address in X. -/
def calleeEntry (sp : Word) (frame : List (Nat × Byte)) (ret : Word) (s : State) : State :=
  setXw (setXw (stored sp frame s) .S sp) .X ret

section
variable {sp ret : Word} {frame : List (Nat × Byte)} {s : State}

theorem getXw_calleeEntry_S : getXw (calleeEntry sp frame ret s) .S = sp := by
  rw [calleeEntry, getXw_setXw_ne _ _ (by decide), getXw_setXw]

theorem devLog_calleeEntry (hram : InRam s sp frame) : (calleeEntry sp frame ret s).devLog = s.devLog := by
  rw [calleeEntry, stored_ram hram]
  rfl

/-- The frame holds what was pushed. -/
theorem readByte_calleeEntry (hwf : Memory.wf s.mem = true) (hram : InRam s sp frame)
    (hnodup : (frame.map Prod.fst).Nodup) (hlt : ∀ w ∈ frame, w.1 < 2048) :
    ∀ w ∈ frame, readByte (calleeEntry sp frame ret s) (sp + BitVec.ofNat 16 w.1) = w.2 := by
  intro w hw
  have hquiet : isQuiet (setXw (stored sp frame s) .S sp) (sp + BitVec.ofNat 16 w.1) = true := by
    rw [isQuiet_setXw]
    exact ram_quiet ((isRam_stored _).trans (hram w hw))
  rw [calleeEntry, readByte_setXw_quiet .X ret hquiet, readByte_setXw_stored .S sp hwf hram hnodup hlt hw]

/-- Beside the frame, X and S every byte is as before, a device's apart. -/
theorem readByte_calleeEntry_ne {a : Word} (hd : isDevice s a = false)
    (hne : ∀ w ∈ frame, resolve s a ≠ resolve s (sp + BitVec.ofNat 16 w.1))
    (hreg : ∀ j ∈ [WReg.X.hi, WReg.X.lo, WReg.S.hi, WReg.S.lo], a ≠ regAddr s j) :
    readByte (calleeEntry sp frame ret s) a = readByte s a := by
  have haddr (j : Nibble) : regAddr (setXw (stored sp frame s) .S sp) j = regAddr s j := regAddr_stored j
  simp only [List.forall_mem_cons, List.not_mem_nil, false_imp_iff, implies_true, and_true] at hreg
  obtain ⟨hXhi, hXlo, hShi, hSlo⟩ := hreg
  rw [calleeEntry, readByte_setXw_ne ret (by rwa [haddr]) (by rwa [haddr]),
    readByte_setXw_stored_ne sp hd hne hShi hSlo]

end

/-! ### PC and MB set after the frame -/

theorem readByte_pc (s : State) (p a : Word) : readByte { s with pc := p } a = readByte s a :=
  readByte_congr rfl rfl rfl rfl rfl rfl a

theorem readByte_mb_pc {s : State} {b : BitVec 3} (hb : b = s.mb) (p a : Word) :
    readByte { s with mb := b, pc := p } a = readByte s a := by
  subst hb
  exact readByte_pc s p a

theorem getXw_mb_pc (s : State) (b : BitVec 3) (p : Word) (r : WReg) :
    getXw { s with mb := b, pc := p } r = getXw s r := rfl

theorem getXw_pc (s : State) (p : Word) (r : WReg) : getXw { s with pc := p } r = getXw s r := rfl

/-! ### JMP and JSR -/

/-- Settles O42: the jump sets PC in the state the address leaves, whose frame is `effAddr_frame`. -/
theorem jump : Obligations.Jump := by
  intro s m _ ea
  have hframe : ea.2 = { s with pc := ea.2.pc, sram := ea.2.sram, devLog := ea.2.devLog } := effAddr_frame m .word s
  refine ⟨Machine.jump m s, rfl, rfl, congrArg (fun t : State => { t with pc := ea.1 }) hframe, fun _ => rfl,
    fun a hd ha => ?_⟩
  exact (readByte_congr rfl rfl rfl rfl rfl rfl a).trans (readByte_effAddr .word hd ha)

/-- The stack word of a call: X, high byte first. -/
def subroutineFrame (x : Word) : List (Nat × Byte) := [(1, loByte x), (0, hiByte x)]

theorem inRam_subroutineFrame {s : State} {sp : Word} (x : Word) (h : isRam s sp = true)
    (h' : isRam s (sp + 1) = true) : InRam s sp (subroutineFrame x) := by
  simpa [InRam, subroutineFrame, h] using h'

theorem push16_ram {s : State} (x : Word) (h : isRam s (getXw s .S - 2) = true)
    (h' : isRam s (getXw s .S - 2 + 1) = true) :
    push16 x s = setXw (stored (getXw s .S - 2) (subroutineFrame x) s) .S (getXw s .S - 2) := by
  have hpush := push16_stored (ws := []) (i := 0) x (by simpa using h) h'
  have hsp : getXw s .S - 2 + BitVec.ofNat 16 (0 + 2) = getXw s .S := BitVec.sub_add_cancel ..
  rwa [stored_nil, hsp, setXw_getXw, BitVec.add_zero] at hpush

/-- JSR with its stack word in RAM (46_jump_call_stack.md R361). -/
theorem callSubroutine_ram {m : Mode} {s : State} (hm : m ≠ .literal) :
    let ea := effAddr m .word s
    let sp := getXw ea.2 .S - 2
    isRam ea.2 sp = true → isRam ea.2 (sp + 1) = true →
    Machine.callSubroutine m s =
      { calleeEntry sp (subroutineFrame (getXw ea.2 .X)) s.pc ea.2 with pc := ea.1 } := by
  intro ea sp h h'
  have hpc : (push16 (getXw ea.2 .X) ea.2).pc = s.pc := (push16_pc ..).trans (effAddr_pc .word s hm)
  change { setXw (push16 (getXw ea.2 .X) ea.2) .X (push16 (getXw ea.2 .X) ea.2).pc with pc := ea.1 } = _
  rw [hpc, push16_ram (getXw ea.2 .X) h h', calleeEntry]

/-- Settles O43: the frame holds for every stack, what a stack in RAM holds by `callSubroutine_ram`. -/
theorem callSubroutine : Obligations.CallSubroutine := by
  intro s m hm ea sp
  have hlit := ne_literal_of_isTarget hm
  have hsame : SameButMemory s ea.2 := (sameButRegisters_effAddr .word s hlit).sameButMemory
  refine ⟨Machine.callSubroutine m s, rfl, rfl, ?ret, ?frame, fun hwf h h' => ?ram⟩
  case ret =>
    obtain ⟨u, -, hX, hcall⟩ := callSubroutine_frame s hlit
    rw [hcall, getXw_pc, hX]
  case frame =>
    obtain ⟨u, ⟨_, _, _, rfl⟩, -, hcall⟩ := callSubroutine_frame s hlit
    rw [hcall]
  case ram =>
    rw [← hsame.isRam_eq] at h h'
    have hram := inRam_subroutineFrame (getXw ea.2 .X) h h'
    have hwf' : Memory.wf ea.2.mem = true := by rwa [effAddr_mem]
    rw [callSubroutine_ram hlit h h']
    simp only [getXw_pc, readByte_pc]
    have hheld := readByte_calleeEntry (ret := s.pc) hwf' hram (by simp [subroutineFrame]) (by simp [subroutineFrame])
    obtain ⟨hlow, hhigh⟩ : _ ∧ _ := by simpa [subroutineFrame] using hheld
    refine ⟨getXw_calleeEntry_S, hhigh, hlow, devLog_calleeEntry hram, fun a hd hhi hlo hreg => ?_⟩
    obtain ⟨hstack, hidx⟩ := List.forall_mem_append.mp hreg
    rw [readByte_calleeEntry_ne (s := ea.2) (by rwa [isDevice_effAddr]) ?frame ?regs, readByte_effAddr .word hd hidx]
    case frame =>
      simp only [subroutineFrame, List.forall_mem_cons, hsame.resolve_eq, BitVec.add_zero]
      exact ⟨hlo, hhi, nofun⟩
    case regs => simpa [ea, regAddr] using hstack

/-! ### JSYS -/

/-- The stack frame of a system call, from its first byte up: the argument, X, IPL and MB; in the order of the pushes
from the last (46_jump_call_stack.md R362). -/
def systemFrame (arg : Byte) (s : State) : List (Nat × Byte) :=
  [(0, arg), (2, loByte (getXw s .X)), (1, hiByte (getXw s .X)), (3, s.ipl.zeroExtend 8), (4, s.mb.zeroExtend 8)]

theorem systemFrame_lt (arg : Byte) (s : State) : ∀ w ∈ systemFrame arg s, w.1 < 5 := by simp [systemFrame]

theorem systemFrame_nodup (arg : Byte) (s : State) : ((systemFrame arg s).map Prod.fst).Nodup := by
  simp [systemFrame]

section
variable {arg : Byte} {s : State} {sp : Word} (hsp : sp + BitVec.ofNat 16 5 = getXw s .S)
  (hram : ∀ k : Fin 5, isRam s (sp + BitVec.ofNat 16 k) = true)
include hsp hram

/-- The four pushes of JSYS onto RAM store its frame. -/
theorem systemCall_pushes :
    let s1 := push8 (s.mb.zeroExtend 8) s
    let s2 := push8 (s1.ipl.zeroExtend 8) s1
    push8 arg (push16 (getXw s2 .X) s2) = setXw (stored sp (systemFrame arg s) s) .S sp := by
  intro s1 s2
  have hMb : s1 = setXw (stored sp [(4, s.mb.zeroExtend 8)] s) .S (sp + BitVec.ofNat 16 4) := by
    have hpush := push8_stored (ws := []) (i := 4) (s.mb.zeroExtend 8) (hram 4)
    rwa [stored_nil, hsp, setXw_getXw] at hpush
  have hIpl : s2 = setXw (stored sp [(3, s.ipl.zeroExtend 8), (4, s.mb.zeroExtend 8)] s) .S
      (sp + BitVec.ofNat 16 3) := by
    simp only [s2, hMb, setXw_ipl, stored_ipl]
    exact push8_stored (i := 3) _ (hram 3)
  have hX : getXw s2 .X = getXw s .X := by
    rw [hIpl, getXw_setXw_ne _ _ (by decide), getXw_stored (inRam_of_lt hram (by simp))]
  rw [hX, hIpl, push16_stored (i := 1) _ (hram 1) (hram 2), push8_stored (i := 0) _ (hram 0), BitVec.add_zero,
    systemFrame]

/-- JSYS with its frame in RAM (46_jump_call_stack.md R362). -/
theorem systemCall_ram : Machine.systemCall arg s =
    { calleeEntry sp (systemFrame arg s) s.pc s with mb := 0, pc := s.cfg.jsysVector } := by
  have hcall := systemCall_pushes (arg := arg) hsp hram
  simp only [Machine.systemCall, hcall, calleeEntry, setXw_pc, setXw_cfg, stored_pc, stored_cfg]

end

/-- Settles O44: the frame holds for every stack, what a stack in RAM holds by `systemCall_ram`. -/
theorem systemCall : Obligations.SystemCall := by
  intro s arg sp
  refine ⟨Machine.systemCall arg s, rfl, ?ret, ?frame, fun hwf hram => ?ram⟩
  case ret =>
    obtain ⟨u, -, hX, hcall⟩ := systemCall_frame arg s
    rw [hcall, getXw_mb_pc, hX]
  case frame =>
    obtain ⟨u, ⟨_, _, _, rfl⟩, -, hcall⟩ := systemCall_frame arg s
    rw [hcall]
  case ram =>
    have hsp : sp + BitVec.ofNat 16 5 = getXw s .S := BitVec.sub_add_cancel ..
    have hframe := inRam_of_lt hram (systemFrame_lt arg s)
    have hheld := readByte_calleeEntry (ret := s.pc) hwf hframe (systemFrame_nodup arg s)
      fun w hw => (systemFrame_lt arg s w hw).trans (by decide)
    obtain ⟨hArg, hXlo, hXhi, hIpl, hMb⟩ : _ ∧ _ ∧ _ ∧ _ ∧ _ := by simpa [systemFrame] using hheld
    have hmb : s.mb = (calleeEntry sp (systemFrame arg s) s.pc s).mb := by simp [calleeEntry]
    rw [systemCall_ram hsp hram]
    simp only [getXw_mb_pc, readByte_mb_pc hmb]
    refine ⟨getXw_calleeEntry_S, devLog_calleeEntry hframe, hArg, hXhi, hXlo, hIpl, hMb, fun a hd hne hreg => ?_⟩
    exact readByte_calleeEntry_ne hd (fun w hw => hne ⟨w.1, systemFrame_lt arg s w hw⟩) hreg

/-! ### Calls and returns -/

/-- Settles O48: X holds the return address and the stack word the old X (O43), which RSR takes (O18). -/
theorem callThenReturn : Obligations.CallThenReturn := by
  intro s v m hm hwf ea sp h h'
  obtain ⟨t, hcall, -, hret, -, hram⟩ := callSubroutine s m hm
  obtain ⟨hS, hhigh, hlow, -⟩ := hram hwf h h'
  refine ⟨t, hcall, fun hvX hvS hvHigh hvLow hq hq' => ?_⟩
  obtain ⟨u, hrsr, hframe, hpop⟩ := returnFromSubroutine v
  have hsp : getXw v .S = sp := hvS.trans hS
  rw [hsp] at hpop
  obtain ⟨hX, hSback, -⟩ := hpop hq hq'
  refine ⟨u, hrsr, ?pc, ?x, ?s⟩
  case pc => rw [hframe, hvX, hret]
  case x => rw [hX, hvHigh, hvLow, hhigh, hlow, wordOf_bytes]
  case s => rw [hSback, BitVec.sub_add_cancel]

theorem loNibble_zeroExtend (n : Nibble) : loNibble (n.zeroExtend 8) = n := by revert n; decide

theorem extractLsb'_zeroExtend (b : BitVec 3) : (b.zeroExtend 8 : Byte).extractLsb' 0 3 = b := by revert b; decide

/-- Settles O49: X holds the return address and the frame the caller's X, IPL and MB (O44), which RSYS takes (O20). -/
theorem systemCallThenReturn : Obligations.SystemCallThenReturn := by
  intro s v arg hwf sp hram
  obtain ⟨t, hcall, hret, -, hcaller⟩ := systemCall s arg
  obtain ⟨hS, -, -, hhigh, hlow, hIpl, hMb, -⟩ := hcaller hwf hram
  refine ⟨t, hcall, fun hvIpl hvX hvS hvFrame => ?_⟩
  obtain ⟨u, hrsys, hframe, hpop⟩ := returnFromSystemCall v
  have hsp : getXw v .S = sp := hvS.trans hS
  rw [hsp] at hpop
  obtain ⟨huIpl, huMb, -, huX, huS, -⟩ := hpop fun k => (hvFrame k).1
  have hheld (k : Fin 5) : readByte v (sp + BitVec.ofNat 16 k) = _ := (hvFrame k).2
  have hIplBack : u.ipl = s.ipl := by
    rw [huIpl, show readByte v (sp + 3) = _ from hheld 3]
    exact (congrArg loNibble hIpl).trans (loNibble_zeroExtend _)
  have hregs (r : WReg) : getXw u r = getXw { u with ipl := v.ipl } r := by
    rw [hvIpl, ← hIplBack]
  refine ⟨u, hrsys, ?pc, hIplBack, ?mb, ?x, ?s⟩
  case pc => rw [hframe, hvX, hret]
  case mb =>
    rw [huMb, show readByte v (sp + 4) = _ from hheld 4]
    exact (congrArg _ hMb).trans (extractLsb'_zeroExtend _)
  case x =>
    rw [hregs, huX, show readByte v (sp + 1) = _ from hheld 1, show readByte v (sp + 2) = _ from hheld 2]
    exact (congrArg₂ wordOf hhigh hlow).trans (wordOf_bytes _)
  case s => rw [hregs, huS, BitVec.sub_add_cancel]

end Sys2Proof.Proofs
end

section
/-! PUSH and POP of a run of registers (46_jump_call_stack.md R363, R364), and that POP undoes PUSH. -/

namespace Sys2Proof.Proofs

open Sys2Proof.Machine Sys2Proof.Laws

/-! ### PUSH -/

theorem sameButMemory_pushRun (r : Nibble) (k : Nat) (sp : Word) (s : State) :
    SameButMemory s (pushRun r k sp s).2 := by
  induction k generalizing sp s with
  | zero => exact ⟨_, _, _, rfl⟩
  | succ k ih => exact (sameButMemory_memWrite8 ..).trans (ih ..)

theorem sameButMemory_pushRegisters (r n : Nibble) (s : State) :
    SameButMemory s (Machine.pushRegisters r n s) :=
  (sameButMemory_pushRun ..).trans (sameButMemory_setXw _ .S _)

/-- What PUSH stores from the new S up: `k` registers from `r` on, as `s` holds them (46_jump_call_stack.md R363). -/
def pushedRun (r : Nibble) (k : Nat) (s : State) : List (Nat × Byte) :=
  (List.range k).map fun i => (i, getX s (r + BitVec.ofNat 4 i))

theorem mem_pushedRun {r : Nibble} {k : Nat} {s : State} {w : Nat × Byte} :
    w ∈ pushedRun r k s ↔ ∃ i < k, (i, getX s (r + BitVec.ofNat 4 i)) = w := by
  simp [pushedRun]

theorem pushedRun_nodup (r : Nibble) (k : Nat) (s : State) : ((pushedRun r k s).map Prod.fst).Nodup := by
  simpa [pushedRun, Function.comp_def] using List.nodup_range

theorem stored_pushedRun_succ (sp : Word) (r : Nibble) (k : Nat) (s : State) :
    stored sp (pushedRun r (k + 1) s) s = stored sp (pushedRun r k s)
      (memWrite8 (sp + BitVec.ofNat 16 k) (getX s (r + BitVec.ofNat 4 k)) s) := by
  simp [stored, pushedRun, List.range_succ]

/-- PUSH's loop onto RAM stores the run as it was at entry: no write of the loop meets a register. -/
theorem pushRun_ram {r : Nibble} {k : Nat} {sp : Word} {s : State}
    (hram : ∀ i < k, isRam s (sp + BitVec.ofNat 16 i) = true) :
    pushRun r k (sp + BitVec.ofNat 16 k) s = (sp, stored sp (pushedRun r k s) s) := by
  induction k generalizing s with
  | zero => simp [pushRun, pushedRun]
  | succ k ih =>
    have hsp : sp + BitVec.ofNat 16 (k + 1) - 1 = sp + BitVec.ofNat 16 k := by bv_omega
    have hsame := sameButMemory_memWrite8 (sp + BitVec.ofNat 16 k) (getX s (r + BitVec.ofNat 4 k)) s
    have hregs : pushedRun r k (memWrite8 (sp + BitVec.ofNat 16 k) (getX s (r + BitVec.ofNat 4 k)) s) =
        pushedRun r k s := by
      rw [memWrite8_ram (hram k (by omega))]
      rfl
    rw [pushRun, hsp, ih fun i hi => by rw [hsame.isRam_eq]; exact hram i (by omega), hregs, stored_pushedRun_succ]

theorem inRam_pushedRun {r : Nibble} {k : Nat} {sp : Word} {s : State}
    (hram : ∀ i < k, isRam s (sp + BitVec.ofNat 16 i) = true) : InRam s sp (pushedRun r k s) := by
  intro w hw
  obtain ⟨i, hi, rfl⟩ := mem_pushedRun.mp hw
  exact hram i hi

theorem pushRegisters_ram {r n : Nibble} {sp : Word} {s : State}
    (hsp : sp + BitVec.ofNat 16 (n.toNat + 1) = getXw s .S)
    (hram : ∀ i ≤ n.toNat, isRam s (sp + BitVec.ofNat 16 i) = true) :
    Machine.pushRegisters r n s = setXw (stored sp (pushedRun r (n.toNat + 1) s) s) .S sp := by
  rw [Machine.pushRegisters, ← hsp, pushRun_ram fun i hi => hram i (by omega)]

/-- PUSH onto RAM writes no register but S. -/
theorem sramByte_pushRegisters {r n : Nibble} {sp : Word} {s : State}
    (hsp : sp + BitVec.ofNat 16 (n.toNat + 1) = getXw s .S)
    (hram : ∀ i ≤ n.toNat, isRam s (sp + BitVec.ofNat 16 i) = true) {i : Byte} (hhi : i ≠ regIndex s.ipl WReg.S.hi)
    (hlo : i ≠ regIndex s.ipl WReg.S.lo) : sramByte (Machine.pushRegisters r n s) i = sramByte s i := by
  have hin : InRam s sp (pushedRun r (n.toNat + 1) s) := inRam_pushedRun fun i hi => hram i (by omega)
  rw [pushRegisters_ram hsp hram, stored_ram hin]
  exact sramByte_setXw_ne _ sp hhi hlo

/-- Settles O45: the frame holds for every stack, what a stack in RAM holds by `pushRegisters_ram`. -/
theorem pushRegisters : Obligations.PushRegisters := by
  intro s r n sp
  refine ⟨Machine.pushRegisters r n s, rfl, (sameButMemory_pushRegisters r n s).eq_with, fun hwf hram => ?_⟩
  have hsp : sp + BitVec.ofNat 16 (n.toNat + 1) = getXw s .S := BitVec.sub_add_cancel ..
  have hin : InRam s sp (pushedRun r (n.toNat + 1) s) := inRam_pushedRun fun i hi => hram i (by omega)
  rw [pushRegisters_ram hsp hram]
  refine ⟨getXw_setXw .., ?history, fun i hi => ?held, fun a hd hne hShi hSlo => ?others⟩
  case history =>
    rw [stored_ram hin]
    rfl
  case held =>
    have hw : (i, getX s (r + BitVec.ofNat 4 i)) ∈ pushedRun r (n.toNat + 1) s :=
      mem_pushedRun.mpr ⟨i, by omega, rfl⟩
    refine readByte_setXw_stored .S sp hwf hin (pushedRun_nodup ..) (fun w hw => ?_) hw
    obtain ⟨j, hj, rfl⟩ := mem_pushedRun.mp hw
    exact hj.trans (by omega)
  case others =>
    refine readByte_setXw_stored_ne sp hd (fun w hw => ?_) hShi hSlo
    obtain ⟨i, hi, rfl⟩ := mem_pushedRun.mp hw
    exact hne i (by omega)

/-! ### POP, wherever the stack lies -/

/-- From `s` to `t` only the current bank of the register file and the devices' history may differ. -/
structure SameButBank (s t : State) : Prop where
  frame : SameButRegisters s t
  banks : ∀ k i, k ≠ s.ipl → sramByte t (regIndex k i) = sramByte s (regIndex k i)

theorem SameButBank.trans {s t u : State} (h₁ : SameButBank s t) (h₂ : SameButBank t u) : SameButBank s u :=
  have hipl : t.ipl = s.ipl := h₁.frame ▸ rfl
  ⟨h₁.frame.trans h₂.frame, fun k i hk => (h₂.banks k i (hipl ▸ hk)).trans (h₁.banks k i hk)⟩

theorem sameButBank_refl (s : State) : SameButBank s s := ⟨rfl, fun _ _ _ => rfl⟩

theorem sameButBank_readDone (s : State) (a : Word) : SameButBank s (readDone s a) :=
  ⟨sameButRegisters_readDone s a, fun _ _ _ => by simp only [sramByte, readDone_sram]⟩

theorem sameButBank_setX (s : State) (i : Nibble) (v : Byte) : SameButBank s (setX s i v) :=
  ⟨rfl, fun _ _ hk => sramByte_setX_bank v hk⟩

theorem sameButBank_setXw (s : State) (r : WReg) (v : Word) : SameButBank s (setXw s r v) :=
  (sameButBank_setX s r.hi _).trans (sameButBank_setX _ r.lo _)

theorem sameButBank_setXIfSome (s : State) (i : Nibble) (v : Option Byte) : SameButBank s (setXIfSome i v s) := by
  cases v with
  | none => exact sameButBank_refl s
  | some v => exact sameButBank_setX s i v

theorem sameButBank_popRun (k : Nat) (t : Nibble) (c : PopCarry) (s : State) : SameButBank s (popRun k t c s).2 := by
  induction k generalizing t c s with
  | zero => exact sameButBank_refl s
  | succ k ih =>
    have hread := sameButBank_readDone s c.sp
    rw [popRun]
    split_ifs
    · exact hread.trans (ih ..)
    · exact hread.trans (ih ..)
    · exact hread.trans ((sameButBank_setX ..).trans (ih ..))

theorem sameButBank_popRegisters (r n : Nibble) (s : State) : SameButBank s (Machine.popRegisters r n s) :=
  (sameButBank_popRun ..).trans <| (sameButBank_setXw _ .S _).trans <|
    (sameButBank_setXIfSome ..).trans (sameButBank_setXIfSome ..)

/-! ### POP from quiet bytes -/

/-- What register `j` ends as if the run stops here with S advanced to `adv`: for a half of S the byte held back, else
that half of the pointer (46_jump_call_stack.md R364). -/
def popResult (adv : Word) (p : PopCarry × State) (j : Nibble) : Byte :=
  if j = WReg.S.hi then p.1.newSH.getD (hiByte adv)
  else if j = WReg.S.lo then p.1.newSL.getD (loByte adv)
  else getX p.2 j

theorem getX_setXIfSome (i : Nibble) (v : Option Byte) (s : State) :
    getX (setXIfSome i v s) i = v.getD (getX s i) := by
  cases v with
  | none => rfl
  | some v => exact getX_setX s i v

theorem getX_setXIfSome_ne {i j : Nibble} (v : Option Byte) (s : State) (h : j ≠ i) :
    getX (setXIfSome i v s) j = getX s j := by
  cases v with
  | none => rfl
  | some v => exact getX_setX_ne s v h

/-- POP leaves each register as `popResult` says of the whole run. -/
theorem getX_popRegisters (r n : Nibble) (s : State) (j : Nibble) :
    let p := popRun (n.toNat + 1) r { sp := getXw s .S, newSH := none, newSL := none } s
    getX (Machine.popRegisters r n s) j = popResult p.1.sp p j := by
  intro p
  simp only [Machine.popRegisters, popResult]
  split_ifs with hhi hlo
  · subst hhi
    rw [getX_setXIfSome_ne _ _ (hi_ne_lo .S .S), getX_setXIfSome, getX_hi_setXw]
  · subst hlo
    rw [getX_setXIfSome, getX_setXIfSome_ne _ _ hhi, getX_lo_setXw]
  · rw [getX_setXIfSome_ne _ _ hlo, getX_setXIfSome_ne _ _ hhi, getX_setXw_ne _ _ hhi hlo]

/-- One step of POP's loop on a quiet byte: the pointer is one higher, register `t` is to end as the byte, and nothing
changes but the register file. -/
theorem popRun_succ {k : Nat} {t : Nibble} {c : PopCarry} {s : State} (hd : isDevice s c.sp = false) :
    ∃ c' s', popRun (k + 1) t c s = popRun k (t + 1) c' s' ∧ c'.sp = c.sp + 1 ∧ s' = { s with sram := s'.sram } ∧
      ∀ adv j, popResult adv (c', s') j = if j = t then readByte s c.sp else popResult adv (c, s) j := by
  rw [popRun, memRead8_quiet hd]
  split_ifs with hhi hlo
  · subst hhi
    refine ⟨_, _, rfl, rfl, rfl, fun adv j => ?_⟩
    by_cases hj : j = WReg.S.hi <;> simp [popResult, hj]
  · subst hlo
    refine ⟨_, _, rfl, rfl, rfl, fun adv j => ?_⟩
    by_cases hj : j = WReg.S.lo <;> simp [popResult, hj, hhi]
  · refine ⟨_, _, rfl, rfl, rfl, fun adv j => ?_⟩
    by_cases hj : j = t
    · simp [popResult, hj, hhi, hlo]
    · simp [popResult, hj, getX_setX_ne]

/-- POP's loop over at most sixteen quiet bytes: register `j` of the run is to end as its byte, every other register
as if there had been no loop. -/
theorem popRun_quiet {k : Nat} (hk : k ≤ 16) {t : Nibble} {c : PopCarry} {s : State}
    (hq : ∀ i < k, isQuiet s (c.sp + BitVec.ofNat 16 i) = true) :
    (popRun k t c s).1.sp = c.sp + BitVec.ofNat 16 k ∧ (popRun k t c s).2.devLog = s.devLog ∧
      ∀ adv j, popResult adv (popRun k t c s) j =
        if (j - t).toNat < k then readByte s (c.sp + BitVec.ofNat 16 (j - t).toNat)
        else popResult adv (c, s) j := by
  induction k generalizing t c s with
  | zero => simp [popRun]
  | succ k ih =>
    have hd : isDevice s c.sp = false := by simpa using isDevice_of_isQuiet (hq 0 (by omega))
    obtain ⟨c', s', hstep, hsp, hs', hreg⟩ := popRun_succ (k := k) (t := t) hd
    have hq' (i : Nat) (hi : i < k) : isQuiet s (c'.sp + BitVec.ofNat 16 i) = true := by
      rw [hsp, add_one_add_ofNat]
      exact hq (i + 1) (by omega)
    obtain ⟨hptr, hlog, hrun⟩ := ih (by omega) (t := t + 1) (c := c') (s := s') fun i hi => by
      rw [hs']
      exact (isQuiet_congr rfl rfl rfl _).trans (hq' i hi)
    have hlog' : s'.devLog = s.devLog := by rw [hs']
    refine ⟨?ptr, ?log, fun adv j => ?reg⟩
    case ptr => rw [hstep, hptr, hsp, add_one_add_ofNat]
    case log => rw [hstep, hlog, hlog']
    case reg =>
      rw [hstep, hrun, hreg]
      by_cases hj : j = t
      · subst hj
        have hlast : ¬ (j - (j + 1)).toNat < k := by bv_omega
        rw [if_neg hlast]
        simp
      · have hpos : (j - t).toNat = (j - (t + 1)).toNat + 1 := by bv_omega
        simp only [hj, if_false, hpos, Nat.add_lt_add_iff_right]
        split_ifs with hlt
        · rw [hs', readByte_outside (s := s) (t := { s with sram := s'.sram }) rfl rfl rfl rfl (hq' _ hlt), hsp,
            add_one_add_ofNat]
        · rfl

/-- Settles O46: the frame holds for every stack, what the registers end as by `popRun_quiet`. -/
theorem popRegisters : Obligations.PopRegisters := by
  intro s r n sp
  have hsame := sameButBank_popRegisters r n s
  refine ⟨Machine.popRegisters r n s, rfl, hsame.frame, hsame.banks, fun hq => ?_⟩
  obtain ⟨hptr, hlog, hrun⟩ := popRun_quiet (k := n.toNat + 1) (t := r)
    (c := { sp := sp, newSH := none, newSL := none }) (by omega) fun i hi => hq i (by omega)
  refine ⟨?log, fun j => ?reg⟩
  case log => simpa [Machine.popRegisters] using hlog
  case reg =>
    rw [getX_popRegisters, hrun, hptr]
    simp only [Nat.lt_succ_iff, popResult, Option.getD_none]

/-! ### POP undoes PUSH -/

/-- Settles O47: PUSH leaves every register but S (O45), POP takes those of the run from where PUSH stored them and
leaves the others but S, whose halves outside the run come from the pointer, back where it was (O46). -/
theorem pushThenPopRestores : Obligations.PushThenPopRestores := by
  intro s r n hwf hram
  obtain ⟨t, hpush, htframe, hstack⟩ := pushRegisters s r n
  obtain ⟨u, hpop, huframe, hbanks, hquiet⟩ := popRegisters t r n
  obtain ⟨hS, hlog, hheld, -⟩ := hstack hwf hram
  have ht : Machine.pushRegisters r n s = t := Host.Outcome.next.inj hpush
  have hsame : SameButMemory s t := ht ▸ sameButMemory_pushRegisters r n s
  have hipl : t.ipl = s.ipl := by rw [htframe]
  have hsp : getXw s .S - BitVec.ofNat 16 (n.toNat + 1) + BitVec.ofNat 16 (n.toNat + 1) = getXw s .S :=
    BitVec.sub_add_cancel ..
  have hkept (k j : Nibble) (h : k = s.ipl → j ≠ WReg.S.hi ∧ j ≠ WReg.S.lo) :
      sramByte t (regIndex k j) = sramByte s (regIndex k j) := by
    rw [← ht]
    refine sramByte_pushRegisters hsp hram (fun e => ?hi) fun e => ?lo
    case hi =>
      obtain ⟨hk, hj⟩ := regIndex_inj.mp e
      exact (h hk).1 hj
    case lo =>
      obtain ⟨hk, hj⟩ := regIndex_inj.mp e
      exact (h hk).2 hj
  rw [hS] at hquiet
  obtain ⟨hlog', hregs⟩ := hquiet fun i hi => ram_quiet ((hsame.isRam_eq _).trans (hram i hi))
  have hback (j : Nibble) : getX u j = getX s j := by
    rw [hregs]
    split_ifs with hrun hhi hlo
    · rw [hheld _ hrun, BitVec.ofNat_toNat, BitVec.setWidth_eq, BitVec.add_comm, BitVec.sub_add_cancel]
    · rw [hsp, hhi, getXw, hiByte_wordOf]
    · rw [hsp, hlo, getXw, loByte_wordOf]
    · rw [getX, hipl, hkept _ _ fun _ => ⟨hhi, hlo⟩, getX]
  have hsram : u.sram = s.sram := sram_ext fun i => by
    obtain ⟨k, j, hi⟩ := eq_append_nibbles i
    change i = regIndex k j at hi
    subst hi
    by_cases hk : k = s.ipl
    · have huipl : u.ipl = s.ipl := by rw [huframe, hipl]
      have hj := hback j
      rwa [getX, getX, huipl, ← hk] at hj
    · rw [hbanks k j (hipl ▸ hk), hkept k j (absurd · hk)]
  refine ⟨t, u, hpush, hpop, ?_⟩
  rw [huframe, hsram, hlog', hlog]
  exact congrArg (fun v : State => { v with sram := s.sram, devLog := s.devLog }) htframe

end Sys2Proof.Proofs
end

section
/-! What a Fatal outcome depends on, and reset on either side of one (60_exceptions.md R400, R401,
70_reset_and_hazards.md R450, R451). -/

namespace Sys2Proof.Proofs

open Sys2Proof.Machine Sys2Proof.Laws

/-- Settles O8: `fatalReason` reads the encoding alone, and decides between the two outcomes. -/
theorem dataNeverFaults : Obligations.DataNeverFaults := by
  intro i
  cases hi : fatalReason i with
  | none => exact .inl (exec_of_fatalReason_none hi)
  | some r => exact .inr ⟨r, exec_of_fatalReason_some hi⟩

/-- A turn that answers a standing hands the rest of the turns to it. -/
theorem runTurns_cons_next {a : Turn} {m m' : Standing} (rest : List Turn) (h : takeTurn a m = .next m') :
    runTurns (a :: rest) m = runTurns rest m' := by
  simp [runTurns, h]

/-- Settles O1: reset makes the core anew beside the host's side, which a Fatal step leaves as its fetches did
(`takeTurn_step_fatal`); neither a step nor an interrupt has a core to act on before it. -/
theorem resetState : Obligations.ResetState := by
  intro s
  refine ⟨⟨hostReset s, rfl, coreReset_resetFrom _, rfl, rfl, rfl, rfl, rfl⟩, fun r hr => ?_⟩
  have hrun (a : Turn) : runTurns [.step, a] (.defined s) =
      runTurns [a] (.afterFatal r (hostSide (fetchInstr s).2)) := runTurns_cons_next [a] (takeTurn_step_fatal hr)
  exact ⟨⟨hostReset (fetchInstr s).2, hrun _, coreReset_resetFrom _, fetchInstr_regions s, fetchInstr_mem s, rfl,
    fetchInstr_cfg s, fetchInstr_sw s⟩, hrun _, fun _ => hrun _⟩

end Sys2Proof.Proofs
end

section
/-! Interrupts (60_exceptions.md R402 to R410): what the entry writes to the register file, byte by byte, and the return
from a state that still holds the context an entry saved. -/

namespace Sys2Proof.Proofs

open Sys2Proof.Machine Sys2Proof.Laws

/-! ### Acceptance -/

/-- An interrupt above IPL enters a bank other than the one it leaves (60_exceptions.md R403). -/
theorem level_ne_ipl {s : State} {l : Nat} (h : s.ipl.toNat < l % 16) : BitVec.ofNat 4 l ≠ s.ipl := by
  intro e
  rw [← e, BitVec.toNat_ofNat] at h
  exact Nat.lt_irrefl _ h

theorem hostAct_trigger_accepted {s : State} {l : Nat} (hie : s.ie = true) (hlt : s.ipl.toNat < l % 16) :
    hostAct (.trigger l) s = .next (interruptEntry (BitVec.ofNat 4 l) s) := by
  have hacc := (accepted_iff s l).mpr ⟨hie, hlt⟩
  simp [hostAct, triggerInterrupt, hacc]

theorem hostAct_trigger_refused {s : State} {l : Nat} (h : ¬(s.ie = true ∧ s.ipl.toNat < l % 16)) :
    hostAct (.trigger l) s = .next s := by
  have hrefused := Bool.eq_false_iff.mpr fun hacc => h ((accepted_iff s l).mp hacc)
  simp [hostAct, trigger_refused hrefused]

/-! ### The register file after the entry -/

theorem sramByte_of_sram {s t : State} (h : t.sram = s.sram) (i : Byte) : sramByte t i = sramByte s i := by
  simp only [sramByte, h]

theorem sramByte_setSramByte_eq_ite (s : State) (j v i : Byte) :
    sramByte (setSramByte s j v) i = if i = j then v else sramByte s i := by
  split_ifs with h
  · rw [h, sramByte_setSramByte]
  · exact sramByte_setSramByte_ne s v h

/-- The part of the entry in the bank it leaves: PC in P, FLAGS in CH[7:4] (60_exceptions.md R405). -/
def saveContext (s : State) : State :=
  setX (setXw s .P s.pc) 12 (setHiNibble (getX (setXw s .P s.pc) 12) s.flags)

theorem sramByte_saveContext (s : State) (k i : Nibble) :
    sramByte (saveContext s) (regIndex k i) =
      if k = s.ipl ∧ i = 12 then setHiNibble (sramByte s (regIndex s.ipl 12)) s.flags
      else if k = s.ipl ∧ i = 15 then loByte s.pc
      else if k = s.ipl ∧ i = 14 then hiByte s.pc
      else sramByte s (regIndex k i) := by
  simp [saveContext, setXw, setX, getX, sramByte_setSramByte_eq_ite, regIndex_inj, WReg.hi, WReg.lo, WReg.sel]

/-- After the context is saved the entry writes one more byte, CL of the bank entered (60_exceptions.md R405). -/
theorem sramByte_interruptEntry_eq_saveContext (l : Nibble) (s : State) (i : Byte) :
    sramByte (interruptEntry l s) i =
      sramByte (setSramByte (saveContext s) (regIndex l 13)
        (setHiNibble (sramByte (saveContext s) (regIndex l 13)) s.ipl)) i := rfl

/-- The entry writes four bytes: P and CH of the bank it leaves, CL of the bank it enters (60_exceptions.md R405). -/
theorem sramByte_interruptEntry (l : Nibble) (s : State) (k i : Nibble) :
    sramByte (interruptEntry l s) (regIndex k i) =
      if k = l ∧ i = 13 then setHiNibble (sramByte s (regIndex l 13)) s.ipl
      else if k = s.ipl ∧ i = 12 then setHiNibble (sramByte s (regIndex s.ipl 12)) s.flags
      else if k = s.ipl ∧ i = 15 then loByte s.pc
      else if k = s.ipl ∧ i = 14 then hiByte s.pc
      else sramByte s (regIndex k i) := by
  rw [sramByte_interruptEntry_eq_saveContext, sramByte_setSramByte_eq_ite, sramByte_saveContext,
    sramByte_saveContext]
  simp [regIndex_inj]

section
variable {s : State} {l k i : Nibble}

/-- The bytes that the entry leaves alone (60_exceptions.md R405). -/
theorem sramByte_interruptEntry_kept (hleft : k = s.ipl → i ≠ 12 ∧ i ≠ 14 ∧ i ≠ 15) (hentered : k = l → i ≠ 13) :
    sramByte (interruptEntry l s) (regIndex k i) = sramByte s (regIndex k i) := by
  rw [sramByte_interruptEntry, if_neg (by tauto), if_neg (by tauto), if_neg (by tauto), if_neg (by tauto)]

/-- Each nibble write keeps the low nibble of register C (10_state.md R38). -/
theorem loNibble_interruptEntry (hi : i = 12 ∨ i = 13) :
    loNibble (sramByte (interruptEntry l s) (regIndex k i)) = loNibble (sramByte s (regIndex k i)) := by
  obtain rfl | rfl := hi
  · by_cases h : k = s.ipl <;> simp [sramByte_interruptEntry, h]
  · by_cases h : k = l <;> simp [sramByte_interruptEntry, h]

end

/-! ### The state after the entry -/

/-- The entry as one update of the state: FLAGS and PC come from the bank entered, as it was before
(60_exceptions.md R405). -/
theorem interruptEntry_eq {s : State} {l : Nibble} (hl : l ≠ s.ipl) :
    interruptEntry l s = { s with
      ipl := l, halted := false, sram := (interruptEntry l s).sram
      flags := hiNibble (sramByte s (regIndex l 12))
      pc := wordOf (sramByte s (regIndex l 14)) (sramByte s (regIndex l 15)) } := by
  have hkept (i : Nibble) (hi : i ≠ 13) :
      sramByte (interruptEntry l s) (regIndex l i) = sramByte s (regIndex l i) :=
    sramByte_interruptEntry_kept (absurd · hl) fun _ => hi
  rw [← hkept 12 (by decide), ← hkept 14 (by decide), ← hkept 15 (by decide)]
  rfl

/-! ### The return -/

/-- Where a return from interrupt in `v` looks for what it restores, it finds the IPL, FLAGS and PC of `s`
(60_exceptions.md R409). -/
structure HoldsContext (s v : State) : Prop where
  ipl : hiNibble (sramByte v (regIndex v.ipl 13)) = s.ipl
  flags : hiNibble (sramByte v (regIndex s.ipl 12)) = s.flags
  pc : wordOf (sramByte v (regIndex s.ipl 14)) (sramByte v (regIndex s.ipl 15)) = s.pc

/-- The entry saves the context it interrupts (60_exceptions.md R405). -/
theorem holdsContext_interruptEntry (s : State) (l : Nibble) : HoldsContext s (interruptEntry l s) := by
  have hipl : (interruptEntry l s).ipl = l := rfl
  constructor <;> simp [hipl, sramByte_interruptEntry]

/-- The context stays held at the same level while CL[7:4] and the saved bytes of the interrupted bank stay. -/
theorem HoldsContext.congr {s t v : State} (h : HoldsContext s t) (hipl : v.ipl = t.ipl)
    (hcl : hiNibble (sramByte v (regIndex t.ipl 13)) = hiNibble (sramByte t (regIndex t.ipl 13)))
    (hsaved : ∀ i ∈ [(12 : Nibble), 14, 15], sramByte v (regIndex s.ipl i) = sramByte t (regIndex s.ipl i)) :
    HoldsContext s v where
  ipl := by rw [hipl, hcl, h.ipl]
  flags := by rw [hsaved 12 (by simp), h.flags]
  pc := by rw [hsaved 14 (by simp), hsaved 15 (by simp), h.pc]

/-- A return from a state that holds a context restores it, and nothing else changes (60_exceptions.md R409). -/
theorem exec_return_of_holdsContext {s v : State} (h : HoldsContext s v) {i : Instr} (hi : i ∈ [Instr.ri, .rim]) :
    exec i v = .next { v with pc := s.pc, flags := s.flags, ipl := s.ipl } := by
  rw [returnFromInterrupt v i hi]
  simp only [h.ipl, h.flags, h.pc]

/-- Settles O51: the entry saves the context, and the handler left it as it was. -/
theorem interruptReturnRestores : Obligations.InterruptReturnRestores := by
  intro s v l hie hlt
  refine ⟨interruptEntry (BitVec.ofNat 4 l) s, hostAct_trigger_accepted hie hlt, fun hipl hcl hsaved i hi => ?_⟩
  refine exec_return_of_holdsContext ((holdsContext_interruptEntry s _).congr hipl hcl fun j hj => ?_) hi
  fin_cases hj <;> exact hsaved _ (by decide)

/-! ### Nesting -/

/-- The register file after two entries, which no return from them writes: a byte that neither entry writes is as
before. The middle bank is entered by the one and left by the other. -/
theorem sramByte_twice_kept {s w : State} {j m k i : Nibble}
    (hw : w.sram = (interruptEntry m (interruptEntry j s)).sram)
    (houter : k = s.ipl → i ≠ 12 ∧ i ≠ 14 ∧ i ≠ 15) (hmiddle : k = j → i ≠ 12 ∧ i ≠ 13 ∧ i ≠ 14 ∧ i ≠ 15)
    (hinner : k = m → i ≠ 13) : sramByte w (regIndex k i) = sramByte s (regIndex k i) :=
  calc sramByte w (regIndex k i)
    _ = sramByte (interruptEntry m (interruptEntry j s)) (regIndex k i) := sramByte_of_sram hw _
    _ = sramByte (interruptEntry j s) (regIndex k i) :=
      sramByte_interruptEntry_kept (fun hk => ⟨(hmiddle hk).1, (hmiddle hk).2.2⟩) hinner
    _ = sramByte s (regIndex k i) := sramByte_interruptEntry_kept houter fun hk => (hmiddle hk).2.1

/-- After an interrupt into a third bank and a return from it, the outer context is still held
(60_exceptions.md R410). -/
theorem holdsContext_nested {s v : State} {j m : Nibble} (hj : j ≠ s.ipl) (hm : m ≠ s.ipl) (hmj : m ≠ j)
    (hipl : v.ipl = j) (hv : v.sram = (interruptEntry m (interruptEntry j s)).sram) :
    HoldsContext s v := by
  refine (holdsContext_interruptEntry s j).congr hipl (congrArg hiNibble ?_) fun i _ => ?_
  · exact (sramByte_of_sram hv _).trans (sramByte_interruptEntry_kept (fun _ => by decide) (absurd ·.symm hmj))
  · exact (sramByte_of_sram hv _).trans (sramByte_interruptEntry_kept (absurd ·.symm hj) (absurd ·.symm hm))

/-- An interrupt, a higher one and two returns: PC, FLAGS and IPL are back, HALTED is clear, and the register file is as
the two entries left it (60_exceptions.md R410). -/
theorem nested_returns {s : State} {j m : Nibble} (hj : j ≠ s.ipl) (hm : m ≠ s.ipl) (hmj : m ≠ j) :
    ∃ v w, exec .ri (interruptEntry m (interruptEntry j s)) = .next v ∧ exec .rim v = .next w ∧
      v.pc = (interruptEntry j s).pc ∧ v.flags = (interruptEntry j s).flags ∧ v.ipl = (interruptEntry j s).ipl ∧
      w = { s with halted := false, sram := w.sram } ∧
      w.sram = (interruptEntry m (interruptEntry j s)).sram := by
  have hri := exec_return_of_holdsContext (holdsContext_interruptEntry (interruptEntry j s) m) (i := .ri) (by simp)
  have hrim := exec_return_of_holdsContext (i := .rim)
    (holdsContext_nested (v := { interruptEntry m (interruptEntry j s) with
      pc := (interruptEntry j s).pc, flags := (interruptEntry j s).flags, ipl := (interruptEntry j s).ipl })
      hj hm hmj rfl rfl) (by simp)
  exact ⟨_, _, hri, hrim, rfl, rfl, rfl, rfl, rfl⟩

/-- Settles O52: each return finds the context of its own entry, and what the two entries write lies in CH and P of the
bank left and CL of the bank entered. -/
theorem nestedInterruptsUnwind : Obligations.NestedInterruptsUnwind := by
  intro s l h hie hl hh j m
  have hj : j ≠ s.ipl := level_ne_ipl hl
  have hm : m ≠ s.ipl := level_ne_ipl (hl.trans hh)
  have hlevel : (interruptEntry j s).ipl.toNat < h % 16 := (BitVec.toNat_ofNat ..).trans_lt hh
  have hmj : m ≠ j := level_ne_ipl hlevel
  obtain ⟨v, w, hri, hrim, hpc, hflags, hipl, hframe, hw⟩ := nested_returns hj hm hmj
  refine ⟨_, _, v, w, hostAct_trigger_accepted hie hl, hostAct_trigger_accepted hie hlevel, hri, hrim, hpc, hflags,
    hipl, hframe, fun k i hks hkj hkm => ?_, fun k i hi => ?_, fun i h12 h14 h15 => ?_, fun i h13 => ?_,
    fun k _ i hi => ?_⟩
  · exact sramByte_twice_kept hw (absurd · hks) (absurd · hkj) (absurd · hkm)
  · have hne (n : Nibble) (hn : 12 ≤ n.toNat) : i ≠ n := fun e => absurd (e ▸ hi) hn.not_gt
    have h12 := hne 12 (by decide)
    have h13 := hne 13 (by decide)
    have h14 := hne 14 (by decide)
    have h15 := hne 15 (by decide)
    exact sramByte_twice_kept hw (fun _ => ⟨h12, h14, h15⟩) (fun _ => ⟨h12, h13, h14, h15⟩) fun _ => h13
  · exact sramByte_twice_kept hw (fun _ => ⟨h12, h14, h15⟩) (absurd ·.symm hj) (absurd ·.symm hm)
  · exact sramByte_twice_kept hw (absurd · hm) (absurd · hmj) fun _ => h13
  · have hC : i = 12 ∨ i = 13 := by simpa using hi
    rw [sramByte_of_sram hw, loNibble_interruptEntry hC, loNibble_interruptEntry hC]

/-! ### The entry -/

/-- Settles O50: the state by `interruptEntry_eq`, the bytes of the register file by `sramByte_interruptEntry`. Below it
the short name is this theorem's, so it stands last. -/
theorem interruptEntry : Obligations.InterruptEntry := by
  intro s l k j
  refine ⟨fun ⟨hie, hlt⟩ => ?_, hostAct_trigger_refused⟩
  have hj : j ≠ k := level_ne_ipl hlt
  have hbyte := sramByte_interruptEntry j s
  refine ⟨Machine.interruptEntry j s, hostAct_trigger_accepted hie hlt, interruptEntry_eq hj, by simp [hbyte, k],
    by simp [hbyte, k], by simp [hbyte, k, setHiNibble], by simp [hbyte, k, setHiNibble], fun i h14 h15 h12 h13 => ?_⟩
  obtain ⟨b, n, hi⟩ := eq_append_nibbles i
  change i = regIndex b n at hi
  subst hi
  simp only [ne_eq, regIndex_inj, not_and] at h14 h15 h12 h13
  exact sramByte_interruptEntry_kept (fun hb => ⟨h12 hb, h14 hb, h15 hb⟩) h13

end Sys2Proof.Proofs
end
